-- ==== Sys2Proof/Word.lean ====
section
/-! DEFINITION. The word types of XXHC (00_scope.md R9, 10_state.md R38). -/

namespace Sys2Proof

/-- A register, a command word, a message address: 64 bits (R38, R64, R90). -/
abbrev Word := BitVec 64

/-- The operands and results of a 32-bit command (R38). -/
abbrev Word32 := BitVec 32

/-- One byte of the message (R61). -/
abbrev Byte := BitVec 8

end Sys2Proof
end

