-- ==== Sys2Proof/Syntax.lean ====
section
/-! DEFINITION. The 21 commands of XXHC (30_encoding.md R92). No command has an operand field (R95). -/

namespace Sys2Proof

/-- One constructor per row of spec/opcode_table.json, in the table's order. -/
inductive Instr where
  | nop
  | curReset
  | laneInit32
  | laneInit64
  | laneStripe32
  | laneStripe64
  | laneConv32
  | laneConv64
  | accSeed32
  | accSeed64
  | accLen32
  | accLen64
  | tail8W64
  | tail4W32
  | tail4W64
  | tail1W32
  | tail1W64
  | accAval32
  | accAval64
  | hash32
  | hash64
  deriving DecidableEq, Repr

/-- The three fields of a command word (R90): OP 7:0, W bit 8, RSV 63:9. -/
structure CmdFields where
  op  : BitVec 8
  w   : BitVec 1
  rsv : BitVec 55
  deriving DecidableEq, Repr

end Sys2Proof
end

