-- ==== Sys2Proof/WellFormed.lean ====
section
/-! DEFINITION. Which command fields are well formed (30_encoding.md R93, R94). A term of `Instr`
carries no operand (R95), so what can be ill formed is a command word's fields, and the checks are
on those. -/

namespace Sys2Proof

/-- RSV must be 0 (R90, R94). -/
def CmdFields.rsvZero (f : CmdFields) : Bool := f.rsv == 0

/-- OP is one of the assigned operations: not 0x0B to 0x0F, not 0x11 to 0xFF (R94). -/
def CmdFields.opAssigned (f : CmdFields) : Bool := f.op.toNat ≤ 0x0A || f.op.toNat == 0x10

/-- NOP and CUR.RESET only with W = 0, the eight-byte fold only with W = 1 (R93). -/
def CmdFields.widthAllowed (f : CmdFields) : Bool :=
  !(f.op.toNat ≤ 0x01 && f.w == 1) && !(f.op.toNat == 0x07 && f.w == 0)

/-- A legal command word's fields (R94). -/
def CmdFields.legal (f : CmdFields) : Bool := f.rsvZero && f.opAssigned && f.widthAllowed

end Sys2Proof
end

