-- ==== Sys2Proof/Decode.lean ====
section
/-! DEFINITION. Decoding a command word, and the encoder (30_encoding.md R90 to R97; 40_cursor.md
R113). Every command is one 64-bit word; nothing but the word decides (R96). -/

namespace Sys2Proof

/-- Why a word is no command (R94). -/
inductive DecodeReject where
  /-- RSV ≠ 0. -/
  | reservedBits
  /-- OP is 0x0B to 0x0F or 0x11 to 0xFF. -/
  | reservedOp
  /-- OP 0x00 or 0x01 with W = 1, or OP 0x07 with W = 0 (R93). -/
  | widthForbidden
  deriving DecidableEq, Repr

inductive DecodeResult where
  | instr (i : Instr)
  | rejected (why : DecodeReject)
  deriving DecidableEq, Repr

def DecodeResult.toOption : DecodeResult → Option Instr
  | .instr i => some i
  | .rejected _ => none

/-- The fields of a command word (R90). -/
def fieldsOf (word : Word) : CmdFields where
  op  := word.extractLsb' 0 8
  w   := word.extractLsb' 8 1
  rsv := word.extractLsb' 9 55

/-- The commands of one operation: its form with W = 0 and its form with W = 1 (R92). -/
structure OpForms where
  narrow : Option Instr
  wide   : Option Instr
  deriving DecidableEq, Repr

/-- The opcode map by OP (R92); `none` for a reserved OP. -/
def opForms (op : Nat) : Option OpForms :=
  match op with
  | 0x00 => some ⟨some .nop, none⟩
  | 0x01 => some ⟨some .curReset, none⟩
  | 0x02 => some ⟨some .laneInit32, some .laneInit64⟩
  | 0x03 => some ⟨some .laneStripe32, some .laneStripe64⟩
  | 0x04 => some ⟨some .laneConv32, some .laneConv64⟩
  | 0x05 => some ⟨some .accSeed32, some .accSeed64⟩
  | 0x06 => some ⟨some .accLen32, some .accLen64⟩
  | 0x07 => some ⟨none, some .tail8W64⟩
  | 0x08 => some ⟨some .tail4W32, some .tail4W64⟩
  | 0x09 => some ⟨some .tail1W32, some .tail1W64⟩
  | 0x0A => some ⟨some .accAval32, some .accAval64⟩
  | 0x10 => some ⟨some .hash32, some .hash64⟩
  | _ => none

def decodeFields (f : CmdFields) : DecodeResult :=
  if f.rsv ≠ 0 then .rejected .reservedBits
  else
    match opForms f.op.toNat with
    | none => .rejected .reservedOp
    | some forms =>
      match (if f.w = 1 then forms.wide else forms.narrow) with
      | some i => .instr i
      | none => .rejected .widthForbidden

/-- Total on every 64-bit word (R94, R113). -/
def decode (word : Word) : DecodeResult := decodeFields (fieldsOf word)

/-- OP of a command (R92). -/
def Instr.op : Instr → BitVec 8
  | .nop => 0x00
  | .curReset => 0x01
  | .laneInit32 => 0x02
  | .laneInit64 => 0x02
  | .laneStripe32 => 0x03
  | .laneStripe64 => 0x03
  | .laneConv32 => 0x04
  | .laneConv64 => 0x04
  | .accSeed32 => 0x05
  | .accSeed64 => 0x05
  | .accLen32 => 0x06
  | .accLen64 => 0x06
  | .tail8W64 => 0x07
  | .tail4W32 => 0x08
  | .tail4W64 => 0x08
  | .tail1W32 => 0x09
  | .tail1W64 => 0x09
  | .accAval32 => 0x0A
  | .accAval64 => 0x0A
  | .hash32 => 0x10
  | .hash64 => 0x10

/-- W of a command (R91, R92). -/
def Instr.w : Instr → BitVec 1
  | .nop => 0
  | .curReset => 0
  | .laneInit32 => 0
  | .laneInit64 => 1
  | .laneStripe32 => 0
  | .laneStripe64 => 1
  | .laneConv32 => 0
  | .laneConv64 => 1
  | .accSeed32 => 0
  | .accSeed64 => 1
  | .accLen32 => 0
  | .accLen64 => 1
  | .tail8W64 => 1
  | .tail4W32 => 0
  | .tail4W64 => 1
  | .tail1W32 => 0
  | .tail1W64 => 1
  | .accAval32 => 0
  | .accAval64 => 1
  | .hash32 => 0
  | .hash64 => 1

/-- The command word `OP + 256 * W` (R92). -/
def encode (i : Instr) : Word := i.op.setWidth 64 + 256 * i.w.setWidth 64

/-- What the decoder reads from a table row's bits; a command is one word, so the `nbits` low bits
of `w` are the word (R90, R96). -/
def decodeTableWord (nbits w : Nat) : Option Instr :=
  (decode (BitVec.ofNat 64 (w % 2 ^ nbits))).toOption

end Sys2Proof
end

