-- ==== Sys2Proof/Config.lean ====
section
/-! DEFINITION. What an implementation fixes (00_scope.md R8) and the values the spec leaves free. -/

namespace Sys2Proof

/-- The legal values of parameter LANE_IMPL (R8): four parallel datapaths, or one datapath used four
times. No rule depends on it (41_stripe.md R146). Log 5. -/
inductive LaneImpl where
  | parallel
  | serial
  deriving DecidableEq, Repr, Inhabited

namespace Config

/-- The part of MSG_SIZE above its least legal value, before the upper bound is applied; open. -/
opaque extraBytes : Nat

/-- Parameter MSG_SIZE (R8): ANY value with `64 ≤ MSG_SIZE ≤ 2^63`, and no more is known of it.
It is what MSGSZ holds at reset; every statement about a state holds for that state's own size.
Log 4. -/
def msgSize : Nat := min extraBytes (2 ^ 63 - 64) + 64

/-- Parameter LANE_IMPL (R8): one of its legal values, and no more is known of it. It is what the
block has at reset; every statement about a state holds for that state's own datapath. Log 5. -/
opaque laneImpl : LaneImpl

/-- The byte the `k`-th draw gives where the spec says a message byte reads as any value
(20_memory.md R65, R79). No body: nothing is known of it. Log 2. -/
opaque freeByte : Nat → Byte

/-- The word the `k`-th draw gives where the spec says a register reads as, or becomes, any value
(20_memory.md R62, 60_exceptions.md R229). No body: nothing is known of it. Logs 3 and 13. -/
opaque freeWord : Nat → Word

end Config

end Sys2Proof
end

