-- ==== Sys2Proof/Machine/State.lean ====
section
/-! DEFINITION. The state of one XXHC block (10_state.md R20), the events of its two agents, and
the hardware-reset state (70_reset_and_hazards.md R250). -/

namespace Sys2Proof.Machine

/-- Four like things, one per lane: the lane file, or the four values of a stripe (R21, R140). -/
structure Lanes (α : Type) where
  l1 : α
  l2 : α
  l3 : α
  l4 : α
  deriving DecidableEq, Repr

/-- STATUS (R27): its four flags and FCAUSE. Its other bits are reserved, read 0 and hold nothing. -/
structure Status where
  busy   : Bool
  done   : Bool
  fault  : Bool
  herr   : Bool
  fcause : BitVec 4
  deriving DecidableEq, Repr

/-- SEQ, the position in the HASH sequence (R35, 44_oneshot.md R204). What each phase does next:
`idle` the start of R200; `stripes` the stripe loop or the convergence after it; `lengthFold` the
length fold; `tail` the next fold of the tail schedule (R169), or the avalanche when no byte is
left. Log 10. -/
inductive SeqPhase where
  | idle
  | stripes
  | lengthFold
  | tail
  deriving DecidableEq, Repr

/-- The four host operations (20_memory.md R62 to R65). -/
inductive HostOp where
  | regRead (off : Word)
  | regWrite (off v : Word)
  | msgRead (a : Word)
  | msgWrite (a : Word) (b : Byte)
  deriving DecidableEq, Repr

/-- One entry of the interleaving of the two agents (R76). Logs 7, 16 and 17. -/
inductive Event where
  /-- The host performs an operation. -/
  | host (op : HostOp)
  /-- The core takes its next step, if it has a command. -/
  | core
  /-- The host's polling loop `wait` (30_encoding.md R99). -/
  | wait
  /-- The reset input is asserted (R250). -/
  | hardReset
  deriving DecidableEq, Repr

/-- The value a host read returned (R62, R65). -/
inductive Response where
  | word (v : Word)
  | byte (b : Byte)
  deriving DecidableEq, Repr

/-- The written bytes of MSG with their addresses; an address in the list has MW = 1, any other has
MW = 0 (R61, R79). Log 1. -/
abbrev Memory := List Host.Cell

/-- Everything R20 names, the parameter LANE_IMPL (R8, log 5), and the model's own `inputs`, `response`
and `draws` (logs 7, 8, 2). ID and
CTRL hold nothing (R28, R31, log 15). -/
structure State where
  lanes    : Lanes Word
  acc      : Word
  off      : Word
  seed     : Word
  len      : Word
  digest   : Word
  status   : Status
  cmd      : Word
  pend     : Word
  seq      : SeqPhase
  fcmd     : Word
  foff     : Word
  fneed    : Word
  /-- MSG_SIZE, the constant MSGSZ reads (R8, R32). -/
  msgSize  : Nat
  /-- LANE_IMPL, which datapath the block is built with (R8). No step writes it. -/
  laneImpl : LaneImpl
  /-- MSG and MW (R61, R79). -/
  msg      : Memory
  /-- The events still to come. -/
  inputs   : List Event
  /-- What the last host operation returned, if it was a read. -/
  response : Option Response
  /-- How many free values have been drawn. -/
  draws    : Nat
  deriving DecidableEq, Repr

/-- No step of this hardware stops: a fault of the spec (60_exceptions.md R227) is a next state with
FAULT = 1, and the block then waits for a reset (R231). So there is no reason to stop with. Log 14. -/
inductive Fault where
  deriving DecidableEq, Repr

/-- The reasons for which a command has no meaning. -/
inductive Refusal where
  /-- Raised by an arm of `exec` whose command has no meaning in the model; no arm raises it now. Safe. -/
  | notModelled (mnemonic : String)
  deriving DecidableEq, Repr

/-- The state after hardware reset (R250, R252). MSGSZ and the lane datapath hold the open
parameters (logs 4 and 5); every message byte is unwritten. -/
def State.reset : State where
  lanes    := ⟨0, 0, 0, 0⟩
  acc      := 0
  off      := 0
  seed     := 0
  len      := 0
  digest   := 0
  status   := ⟨false, false, false, false, 0⟩
  cmd      := 0
  pend     := 0
  seq      := .idle
  fcmd     := 0
  foff     := 0
  fneed    := 0
  msgSize  := Config.msgSize
  laneImpl := Config.laneImpl
  msg      := []
  inputs   := []
  response := none
  draws    := 0

end Sys2Proof.Machine
end

