-- ==== Sys2Proof/Machine/Flags.lean ====
section
/-! DEFINITION. The STATUS bits, the block's only flags (10_state.md R27, R37): what sets and clears
them, and STATUS as the host reads it. -/

namespace Sys2Proof.Machine

/-- A command word is accepted (40_cursor.md R111). -/
def Status.issued (st : Status) : Status := { st with busy := true, done := false }

/-- A command completes (40_cursor.md R114). -/
def Status.completed (st : Status) : Status := { st with busy := false, done := true }

/-- A command faults with a cause code (60_exceptions.md R227). -/
def Status.faulted (st : Status) (code : BitVec 4) : Status :=
  { st with fcause := code, fault := true, busy := false, done := false }

/-- A host access is refused (60_exceptions.md R232). -/
def Status.refused (st : Status) : Status := { st with herr := true }

/-- STATUS after a reset (70_reset_and_hazards.md R250). -/
def Status.cleared : Status := ⟨false, false, false, false, 0⟩

/-- STATUS as a 64-bit value (R27): BUSY 0, DONE 1, FAULT 2, HERR 3, FCAUSE 11:8, the rest 0. -/
def Status.word (st : Status) : Word :=
  BitVec.ofNat 64
    (st.busy.toNat + 2 * st.done.toNat + 4 * st.fault.toNat + 8 * st.herr.toNat
      + 256 * st.fcause.toNat)

end Sys2Proof.Machine
end

