-- ==== Sys2Proof/Machine/Ops.lean ====
section
/-! DEFINITION. The named operations over memory and registers: the message memory, one update per
register, fault entry (60_exceptions.md R227) and the resets that leave a fault
(70_reset_and_hazards.md R250, R251). -/

namespace Sys2Proof.Machine

/-! ### The message memory (20_memory.md R61, R66, R79) -/

/-- The written byte at an address; `none` where MW = 0. -/
def Memory.lookup : Memory → Nat → Option Byte
  | [], _ => none
  | c :: m, a => if c.1 = a then some c.2 else Memory.lookup m a

/-- `MSG[a] <- b; MW[a] <- 1`, keeping the addresses rising. -/
def Memory.insert : Memory → Nat → Byte → Memory
  | [], a, b => [(a, b)]
  | c :: m, a, b =>
    if a < c.1 then (a, b) :: c :: m
    else if a = c.1 then (a, b) :: m
    else c :: Memory.insert m a b

/-- The canonical form: addresses strictly rising. An unlisted address reads as no fixed value, so no
entry is redundant. -/
def Memory.wf : Memory → Bool
  | [] => true
  | [_] => true
  | c :: d :: m => decide (c.1 < d.1) && Memory.wf (d :: m)

/-- Every written address is one of MSG's `size` addresses (R60). -/
def Memory.inRange (m : Memory) (size : Nat) : Bool := m.all fun c => decide (c.1 < size)

/-- The byte at address `a` in the read whose draw has number `draw`: MSG[a], or any value where
MW[a] = 0 (R79). What an unlisted address reads as is said here and nowhere else. -/
def State.byteAt (s : State) (a draw : Nat) : Byte :=
  match Memory.lookup s.msg a with
  | some b => b
  | none => Config.freeByte draw

/-- `MemRead(a, n)`, little-endian: `MSG[a]` is bits 7:0 (R66). Its bytes have the draws `draw`,
`draw + 1`, and so on, so that each unwritten byte is drawn independently (R79). -/
def State.memRead (s : State) (a draw : Nat) : Nat → Nat
  | 0 => 0
  | n + 1 => (s.byteAt a draw).toNat + 256 * s.memRead (a + 1) (draw + 1) n

/-! ### One update per register -/

def State.setLanes (s : State) (v : Lanes Word) : State := { s with lanes := v }
def State.setAcc (s : State) (v : Word) : State := { s with acc := v }
def State.setOff (s : State) (v : Word) : State := { s with off := v }
def State.setSeed (s : State) (v : Word) : State := { s with seed := v }
def State.setLen (s : State) (v : Word) : State := { s with len := v }
def State.setDigest (s : State) (v : Word) : State := { s with digest := v }
def State.setStatus (s : State) (v : Status) : State := { s with status := v }
def State.setCmd (s : State) (v : Word) : State := { s with cmd := v }
def State.setPend (s : State) (v : Word) : State := { s with pend := v }
def State.setSeq (s : State) (v : SeqPhase) : State := { s with seq := v }
def State.setMsg (s : State) (v : Memory) : State := { s with msg := v }
def State.setInputs (s : State) (v : List Event) : State := { s with inputs := v }
def State.setResponse (s : State) (v : Option Response) : State := { s with response := v }
def State.setDraws (s : State) (v : Nat) : State := { s with draws := v }

/-- The fault record (10_state.md R30). -/
def State.setRecord (s : State) (cmd off need : Word) : State :=
  { s with fcmd := cmd, foff := off, fneed := need }

/-! ### The command cycle (40_cursor.md R111, R114) -/

/-- The command word the core executes (R112). -/
def State.fetchWord (s : State) : Word := s.pend

/-- An accepted CMD write (R111). -/
def State.issue (s : State) (v : Word) : State :=
  ((s.setCmd v).setPend v).setStatus s.status.issued

/-- Completion (R114). -/
def State.complete (s : State) : State := (s.setStatus s.status.completed).setSeq .idle

/-- A refused host access: HERR and nothing else (R232). -/
def State.refuse (s : State) : State := s.setStatus s.status.refused

/-! ### Taking a fault (60_exceptions.md R221, R227) -/

/-- The causes of R221; codes 6 to 15 are never raised. -/
inductive Cause where
  | illegalCmd
  | cursorOverrun
  | msgRange
  | lenRange
  | unconsumed
  deriving DecidableEq, Repr

/-- The code FCAUSE gets (R221). -/
def Cause.code : Cause → BitVec 4
  | .illegalCmd => 1
  | .cursorOverrun => 2
  | .msgRange => 3
  | .lenRange => 4
  | .unconsumed => 5

/-- `raise CAUSE(off, need)` as a command rule writes it (00_scope.md R15). -/
structure Raise where
  cause : Cause
  off   : Word
  need  : Word
  deriving DecidableEq, Repr

/-- Fault entry (R227): FCAUSE, FAULT, BUSY, DONE, the fault record, SEQ; no other register. -/
def State.takeFault (s : State) (r : Raise) : State :=
  ((s.setStatus (s.status.faulted r.cause.code)).setRecord s.pend r.off r.need).setSeq .idle

/-! ### Leaving the halted state (R231; 70_reset_and_hazards.md R250, R251) -/

/-- Soft reset (R251): everything hardware reset does, but MSG and MW keep their values. MSG_SIZE and
LANE_IMPL are constants; the events to come and the draws are not the block's. -/
def State.softReset (s : State) : State :=
  { State.reset with
    msgSize := s.msgSize, laneImpl := s.laneImpl, msg := s.msg, inputs := s.inputs
    draws := s.draws }

/-- Hardware reset (R250): the soft reset's effect, and every written mark is cleared. -/
def State.hardReset (s : State) : State := s.softReset.setMsg []

end Sys2Proof.Machine
end

