-- ==== Sys2Proof/Machine/Arith.lean ====
section
/-! DEFINITION. The arithmetic of the two widths (00_scope.md R10 to R14, 41_stripe.md R146 to R149,
43_finalize.md R190, R191). BitVec's `+`, `-`, `*` are the wrap-around ones of R10. -/

namespace Sys2Proof.Machine

/-! ### The constants (R12, R13) -/

def P1_32 : Word32 := 0x9E3779B1#32
def P2_32 : Word32 := 0x85EBCA77#32
def P3_32 : Word32 := 0xC2B2AE3D#32
def P4_32 : Word32 := 0x27D4EB2F#32
def P5_32 : Word32 := 0x165667B1#32

def P1_64 : Word := 0x9E3779B185EBCA87#64
def P2_64 : Word := 0xC2B2AE3D27D4EB4F#64
def P3_64 : Word := 0x165667B19E3779F9#64
def P4_64 : Word := 0x85EBCA77C2B2AE63#64
def P5_64 : Word := 0x27D4EB2F165667C5#64

/-! ### Rotation and the round (R11, R14) -/

/-- `rotl_32(x, r)` for 0 < r < 32 (R11). -/
def rotl32 (x : Word32) (r : Nat) : Word32 := (x <<< r) ||| (x >>> (32 - r))

/-- `rotl_64(x, r)` for 0 < r < 64 (R11). -/
def rotl64 (x : Word) (r : Nat) : Word := (x <<< r) ||| (x >>> (64 - r))

def round32 (a v : Word32) : Word32 := rotl32 (a + v * P2_32) 13 * P1_32

def round64 (a v : Word) : Word := rotl64 (a + v * P2_64) 31 * P1_64

/-! ### The lanes (R141 to R149) -/

def Lanes.map {α β : Type} (f : α → β) (l : Lanes α) : Lanes β :=
  ⟨f l.l1, f l.l2, f l.l3, f l.l4⟩

def Lanes.zipWith {α β γ : Type} (f : α → β → γ) (l : Lanes α) (m : Lanes β) : Lanes γ :=
  ⟨f l.l1 m.l1, f l.l2 m.l2, f l.l3 m.l3, f l.l4 m.l4⟩

/-- One round per lane, lane i with stripe slot i (R141). `parallel` computes the four at once;
`serial` uses one datapath four times, each use writing one lane of the file (R146). -/
def laneRounds {α : Type} (impl : LaneImpl) (round : α → α → α) (l v : Lanes α) : Lanes α :=
  match impl with
  | .parallel => Lanes.zipWith round l v
  | .serial =>
    let step1 := { l with l1 := round l.l1 v.l1 }
    let step2 := { step1 with l2 := round step1.l2 v.l2 }
    let step3 := { step2 with l3 := round step2.l3 v.l3 }
    { step3 with l4 := round step3.l4 v.l4 }

/-- The lanes LANE.INIT.32 starts from (R142). -/
def initLanes32 (s : Word32) : Lanes Word32 := ⟨s + P1_32 + P2_32, s + P2_32, s, s - P1_32⟩

/-- The lanes LANE.INIT.64 starts from (R143). -/
def initLanes64 (s : Word) : Lanes Word := ⟨s + P1_64 + P2_64, s + P2_64, s, s - P1_64⟩

/-- The 32-bit convergence (R147). -/
def converge32 (l : Lanes Word32) : Word32 :=
  rotl32 l.l1 1 + rotl32 l.l2 7 + rotl32 l.l3 12 + rotl32 l.l4 18

/-- The 64-bit merge step (R149), with the whole round (90_conflicts.md C2). -/
def merge64 (acc l : Word) : Word := (acc ^^^ round64 0#64 l) * P1_64 + P4_64

/-- The 64-bit convergence (R148): the rotate-sum, then the merges in lane order. -/
def converge64 (l : Lanes Word) : Word :=
  let sum := rotl64 l.l1 1 + rotl64 l.l2 7 + rotl64 l.l3 12 + rotl64 l.l4 18
  merge64 (merge64 (merge64 (merge64 sum l.l1) l.l2) l.l3) l.l4

/-! ### The tail folds (42_tail.md R164 to R168) -/

def fold8W64 (acc v : Word) : Word := rotl64 (acc ^^^ round64 0#64 v) 27 * P1_64 + P4_64

def fold4W32 (acc v : Word32) : Word32 := rotl32 (acc + v * P3_32) 17 * P4_32

/-- `v` is the four-byte value, zero-extended before the multiply (R166). -/
def fold4W64 (acc v : Word) : Word := rotl64 (acc ^^^ (v * P1_64)) 23 * P2_64 + P3_64

def fold1W32 (acc v : Word32) : Word32 := rotl32 (acc + v * P5_32) 11 * P1_32

def fold1W64 (acc v : Word) : Word := rotl64 (acc ^^^ (v * P5_64)) 11 * P1_64

/-! ### The avalanche (R190, R191) -/

def aval32 (a : Word32) : Word32 :=
  let a := a ^^^ (a >>> 15)
  let a := a * P2_32
  let a := a ^^^ (a >>> 13)
  let a := a * P3_32
  a ^^^ (a >>> 16)

def aval64 (a : Word) : Word :=
  let a := a ^^^ (a >>> 33)
  let a := a * P2_64
  let a := a ^^^ (a >>> 29)
  let a := a * P3_64
  a ^^^ (a >>> 32)

end Sys2Proof.Machine
end

