-- ==== Sys2Proof/Machine/Operands.lean ====
section
/-! DEFINITION. The implicit operands of the commands (30_encoding.md R95, 10_state.md R36, R38): the
32-bit views of the 64-bit registers, and the two reads of the byte cursor (40_cursor.md R117,
R118). -/

namespace Sys2Proof.Machine

/-- `lo32(v)` (00_scope.md R9). -/
def lo32 (v : Word) : Word32 := v.setWidth 32

/-- `zext_64(v)` of a 32-bit value (R9). -/
def zext64 (v : Word32) : Word := v.setWidth 64

def State.seed32 (s : State) : Word32 := lo32 s.seed
def State.len32 (s : State) : Word32 := lo32 s.len
def State.acc32 (s : State) : Word32 := lo32 s.acc
def State.lanes32 (s : State) : Lanes Word32 := s.lanes.map lo32

def State.setAcc32 (s : State) (v : Word32) : State := s.setAcc (zext64 v)
def State.setDigest32 (s : State) (v : Word32) : State := s.setDigest (zext64 v)
def State.setLanes32 (s : State) (v : Lanes Word32) : State := s.setLanes (v.map zext64)

/-- `remaining()`, on 64 bits (R36). Log 12. -/
def State.remaining (s : State) : Word := s.len - s.off

/-- What both reads check before they change anything: CURSOR_OVERRUN first, then MSG_RANGE with the
sum computed exactly (R117, R118, 60_exceptions.md R230). -/
def State.readCheck (s : State) (n : Nat) : Option Raise :=
  if s.remaining.toNat < n then some ⟨.cursorOverrun, s.off, BitVec.ofNat 64 n⟩
  else if s.off.toNat + n > s.msgSize then some ⟨.msgRange, s.off, BitVec.ofNat 64 n⟩
  else none

/-- OFF advances by exactly the bytes read (R116); each of them was one draw (R79). -/
def State.advance (s : State) (n : Nat) : State :=
  (s.setOff (s.off + BitVec.ofNat 64 n)).setDraws (s.draws + n)

/-- `CurRead(n)` (R117): the value, as an unsigned number below 2^(8n), and the state after. -/
def State.curRead (s : State) (n : Nat) : Except Raise (Nat × State) :=
  match s.readCheck n with
  | some r => .error r
  | none => .ok (s.memRead s.off.toNat s.draws n, s.advance n)

/-- `CurReadStripe` with `k` bytes a slot, slot 1 at the lowest address (R118). -/
def State.curReadStripe (s : State) (k : Nat) : Except Raise (Lanes Nat × State) :=
  match s.readCheck (4 * k) with
  | some r => .error r
  | none =>
    let slot (i : Nat) := s.memRead (s.off.toNat + i * k) (s.draws + i * k) k
    .ok (⟨slot 0, slot 1, slot 2, slot 3⟩, s.advance (4 * k))

/-! ### How a command's rule ends (40_cursor.md R114, R115) -/

/-- The body of a command's rule: the state after its writes, or a raise. -/
abbrev Body := State → Except Raise State

/-- A primitive command: its body, then completion or fault entry, in one core step (R112). -/
def runPrimitive (body : Body) (s : State) : Host.Outcome State Fault Refusal :=
  match body s with
  | .ok t => .next t.complete
  | .error r => .next (s.takeFault r)

end Sys2Proof.Machine
end

