-- ==== Sys2Proof/Machine/Cursor.lean ====
section
/-! DEFINITION. The width-independent commands (40_cursor.md R120, R121). -/

namespace Sys2Proof.Machine

/-- NOP: `skip` (R120). -/
def execNop (s : State) : Host.Outcome State Fault Refusal :=
  runPrimitive (fun s => .ok s) s

def bodyCurReset : Body := fun s => .ok (s.setOff 0)

/-- CUR.RESET (R121). -/
def execCurReset (s : State) : Host.Outcome State Fault Refusal := runPrimitive bodyCurReset s

end Sys2Proof.Machine
end

