-- ==== Sys2Proof/Machine/Finalize.lean ====
section
/-! DEFINITION. The finalize commands (43_finalize.md R192 to R194). -/

namespace Sys2Proof.Machine

/-- The consumption check (R194): UNCONSUMED while bytes of the message remain unread. -/
def State.consumedCheck (s : State) : Option Raise :=
  if s.remaining ≠ 0 then some ⟨.unconsumed, s.off, s.remaining⟩ else none

def bodyAccAval32 : Body := fun s =>
  match s.consumedCheck with
  | some r => .error r
  | none =>
    let d := aval32 s.acc32
    .ok ((s.setAcc32 d).setDigest32 d)

/-- ACC.AVAL.32 (R192). -/
def execAccAval32 (s : State) : Host.Outcome State Fault Refusal := runPrimitive bodyAccAval32 s

def bodyAccAval64 : Body := fun s =>
  match s.consumedCheck with
  | some r => .error r
  | none =>
    let d := aval64 s.acc
    .ok ((s.setAcc d).setDigest d)

/-- ACC.AVAL.64 (R193). -/
def execAccAval64 (s : State) : Host.Outcome State Fault Refusal := runPrimitive bodyAccAval64 s

end Sys2Proof.Machine
end

