-- ==== Sys2Proof/Machine/Stripe.lean ====
section
/-! DEFINITION. The stripe accumulator commands (41_stripe.md R142 to R148). -/

namespace Sys2Proof.Machine

def bodyLaneInit32 : Body := fun s => .ok (s.setLanes32 (initLanes32 s.seed32))

/-- LANE.INIT.32 (R142). -/
def execLaneInit32 (s : State) : Host.Outcome State Fault Refusal := runPrimitive bodyLaneInit32 s

def bodyLaneInit64 : Body := fun s => .ok (s.setLanes (initLanes64 s.seed))

/-- LANE.INIT.64 (R143). -/
def execLaneInit64 (s : State) : Host.Outcome State Fault Refusal := runPrimitive bodyLaneInit64 s

def bodyLaneStripe32 : Body := fun s =>
  match s.curReadStripe 4 with
  | .error r => .error r
  | .ok (v, t) =>
    .ok (t.setLanes32 (laneRounds t.laneImpl round32 t.lanes32 (v.map (BitVec.ofNat 32))))

/-- LANE.STRIPE.32 (R144), on the datapath the block has; all four lanes in one core step (R146). -/
def execLaneStripe32 (s : State) : Host.Outcome State Fault Refusal :=
  runPrimitive bodyLaneStripe32 s

def bodyLaneStripe64 : Body := fun s =>
  match s.curReadStripe 8 with
  | .error r => .error r
  | .ok (v, t) =>
    .ok (t.setLanes (laneRounds t.laneImpl round64 t.lanes (v.map (BitVec.ofNat 64))))

/-- LANE.STRIPE.64 (R145), on the datapath the block has; all four lanes in one core step (R146). -/
def execLaneStripe64 (s : State) : Host.Outcome State Fault Refusal :=
  runPrimitive bodyLaneStripe64 s

def bodyLaneConv32 : Body := fun s => .ok (s.setAcc32 (converge32 s.lanes32))

/-- LANE.CONV.32 (R147). -/
def execLaneConv32 (s : State) : Host.Outcome State Fault Refusal := runPrimitive bodyLaneConv32 s

def bodyLaneConv64 : Body := fun s => .ok (s.setAcc (converge64 s.lanes))

/-- LANE.CONV.64 (R148). -/
def execLaneConv64 (s : State) : Host.Outcome State Fault Refusal := runPrimitive bodyLaneConv64 s

end Sys2Proof.Machine
end

