-- ==== Sys2Proof/Machine/Tail.lean ====
section
/-! DEFINITION. The tail digest commands (42_tail.md R160 to R168). -/

namespace Sys2Proof.Machine

/-! ### Initialisation and length fold-in -/

def bodyAccSeed32 : Body := fun s => .ok (s.setAcc32 (s.seed32 + P5_32))

/-- ACC.SEED.32 (R160). -/
def execAccSeed32 (s : State) : Host.Outcome State Fault Refusal := runPrimitive bodyAccSeed32 s

def bodyAccSeed64 : Body := fun s => .ok (s.setAcc (s.seed + P5_64))

/-- ACC.SEED.64 (R161). -/
def execAccSeed64 (s : State) : Host.Outcome State Fault Refusal := runPrimitive bodyAccSeed64 s

def bodyAccLen32 : Body := fun s => .ok (s.setAcc32 (s.acc32 + s.len32))

/-- ACC.LEN.32 (R162). -/
def execAccLen32 (s : State) : Host.Outcome State Fault Refusal := runPrimitive bodyAccLen32 s

def bodyAccLen64 : Body := fun s => .ok (s.setAcc (s.acc + s.len))

/-- ACC.LEN.64 (R163). -/
def execAccLen64 (s : State) : Host.Outcome State Fault Refusal := runPrimitive bodyAccLen64 s

/-! ### Tail folds -/

/-- A 32-bit fold of an `n`-byte group read at the cursor (R165, R167). -/
def tailBody32 (n : Nat) (fold : Word32 → Word32 → Word32) : Body := fun s =>
  match s.curRead n with
  | .error r => .error r
  | .ok (v, t) => .ok (t.setAcc32 (fold t.acc32 (BitVec.ofNat 32 v)))

/-- A 64-bit fold of an `n`-byte group read at the cursor, the group zero-extended (R164, R166,
R168). -/
def tailBody64 (n : Nat) (fold : Word → Word → Word) : Body := fun s =>
  match s.curRead n with
  | .error r => .error r
  | .ok (v, t) => .ok (t.setAcc (fold t.acc (BitVec.ofNat 64 v)))

def bodyTail8W64 : Body := tailBody64 8 fold8W64

/-- TAIL.8.64 (R164). -/
def execTail8W64 (s : State) : Host.Outcome State Fault Refusal := runPrimitive bodyTail8W64 s

def bodyTail4W32 : Body := tailBody32 4 fold4W32

/-- TAIL.4.32 (R165). -/
def execTail4W32 (s : State) : Host.Outcome State Fault Refusal := runPrimitive bodyTail4W32 s

def bodyTail4W64 : Body := tailBody64 4 fold4W64

/-- TAIL.4.64 (R166). -/
def execTail4W64 (s : State) : Host.Outcome State Fault Refusal := runPrimitive bodyTail4W64 s

def bodyTail1W32 : Body := tailBody32 1 fold1W32

/-- TAIL.1.32 (R167). -/
def execTail1W32 (s : State) : Host.Outcome State Fault Refusal := runPrimitive bodyTail1W32 s

def bodyTail1W64 : Body := tailBody64 1 fold1W64

/-- TAIL.1.64 (R168). -/
def execTail1W64 (s : State) : Host.Outcome State Fault Refusal := runPrimitive bodyTail1W64 s

end Sys2Proof.Machine
end

