-- ==== Sys2Proof/Machine/Oneshot.lean ====
section
/-! DEFINITION. The HASH commands (44_oneshot.md R200 to R204): one core step per `do`, SEQ holding
the position in the sequence. -/

namespace Sys2Proof.Machine

/-- After a fault inside HASH after its start the datapath registers are any value (60_exceptions.md
R229). No run reaches this (R203). Log 13. -/
def State.freeDatapath (s : State) : State :=
  { s with
    lanes := ⟨Config.freeWord s.draws, Config.freeWord (s.draws + 1),
              Config.freeWord (s.draws + 2), Config.freeWord (s.draws + 3)⟩
    acc := Config.freeWord (s.draws + 4)
    off := Config.freeWord (s.draws + 5)
    digest := Config.freeWord (s.draws + 6)
    draws := s.draws + 7 }

/-- A fault inside HASH after its start (R227, R229). -/
def State.takeHashFault (s : State) (r : Raise) : State := s.freeDatapath.takeFault r

/-- `do X` inside HASH (00_scope.md R15, R204): the body of X in one core step, STATUS unchanged, SEQ
moved on. -/
def hashDo (body : Body) (phase : SeqPhase) (s : State) : Host.Outcome State Fault Refusal :=
  match body s with
  | .ok t => .next (t.setSeq phase)
  | .error r => .next (s.takeHashFault r)

/-- The last `do` of HASH, with the completion in the same core step (40_cursor.md R114). -/
def hashLast (body : Body) (s : State) : Host.Outcome State Fault Refusal :=
  match body s with
  | .ok t => .next t.complete
  | .error r => .next (s.takeHashFault r)

/-- The first core step of HASH (R200): LEN_RANGE with nothing else changed, or a fresh cursor and
the first `do` of the long or the short path. -/
def hashStart (stripe : Nat) (init seed : Body) (s : State) : Host.Outcome State Fault Refusal :=
  if s.len.toNat > s.msgSize then .next (s.takeFault ⟨.lenRange, 0, 0⟩)
  else if s.len.toNat ≥ stripe then hashDo init .stripes (s.setOff 0)
  else hashDo seed .lengthFold (s.setOff 0)

/-- A core step in the stripe phase: one more stripe, or the convergence (R201, R202). -/
def hashStripes (stripe : Nat) (round conv : Body) (s : State) : Host.Outcome State Fault Refusal :=
  if s.remaining.toNat ≥ stripe then hashDo round .stripes s else hashDo conv .lengthFold s

/-- HASH.32: one core step of it, from the phase SEQ holds (R201, R204; tail schedule 42_tail.md
R169). -/
def execHash32 (s : State) : Host.Outcome State Fault Refusal :=
  match s.seq with
  | .idle => hashStart 16 bodyLaneInit32 bodyAccSeed32 s
  | .stripes => hashStripes 16 bodyLaneStripe32 bodyLaneConv32 s
  | .lengthFold => hashDo bodyAccLen32 .tail s
  | .tail =>
    if s.remaining.toNat ≥ 4 then hashDo bodyTail4W32 .tail s
    else if s.remaining.toNat ≥ 1 then hashDo bodyTail1W32 .tail s
    else hashLast bodyAccAval32 s

/-- HASH.64: one core step of it, from the phase SEQ holds (R202, R204; tail schedule R169). The
four-byte fold runs only with fewer than eight bytes left, so at most once (90_conflicts.md C1). -/
def execHash64 (s : State) : Host.Outcome State Fault Refusal :=
  match s.seq with
  | .idle => hashStart 32 bodyLaneInit64 bodyAccSeed64 s
  | .stripes => hashStripes 32 bodyLaneStripe64 bodyLaneConv64 s
  | .lengthFold => hashDo bodyAccLen64 .tail s
  | .tail =>
    if s.remaining.toNat ≥ 8 then hashDo bodyTail8W64 .tail s
    else if s.remaining.toNat ≥ 4 then hashDo bodyTail4W64 .tail s
    else if s.remaining.toNat ≥ 1 then hashDo bodyTail1W64 .tail s
    else hashLast bodyAccAval64 s

end Sys2Proof.Machine
end

