-- ==== Sys2Proof/Machine/Dispatch.lean ====
section
/-! DEFINITION. One meaning per command. -/

namespace Sys2Proof.Machine

def exec (i : Instr) (s : State) : Host.Outcome State Fault Refusal :=
  match i with
  | .nop => Sys2Proof.Machine.execNop s
  | .curReset => Sys2Proof.Machine.execCurReset s
  | .laneInit32 => Sys2Proof.Machine.execLaneInit32 s
  | .laneInit64 => Sys2Proof.Machine.execLaneInit64 s
  | .laneStripe32 => Sys2Proof.Machine.execLaneStripe32 s
  | .laneStripe64 => Sys2Proof.Machine.execLaneStripe64 s
  | .laneConv32 => Sys2Proof.Machine.execLaneConv32 s
  | .laneConv64 => Sys2Proof.Machine.execLaneConv64 s
  | .accSeed32 => Sys2Proof.Machine.execAccSeed32 s
  | .accSeed64 => Sys2Proof.Machine.execAccSeed64 s
  | .accLen32 => Sys2Proof.Machine.execAccLen32 s
  | .accLen64 => Sys2Proof.Machine.execAccLen64 s
  | .tail8W64 => Sys2Proof.Machine.execTail8W64 s
  | .tail4W32 => Sys2Proof.Machine.execTail4W32 s
  | .tail4W64 => Sys2Proof.Machine.execTail4W64 s
  | .tail1W32 => Sys2Proof.Machine.execTail1W32 s
  | .tail1W64 => Sys2Proof.Machine.execTail1W64 s
  | .accAval32 => Sys2Proof.Machine.execAccAval32 s
  | .accAval64 => Sys2Proof.Machine.execAccAval64 s
  | .hash32 => Sys2Proof.Machine.execHash32 s
  | .hash64 => Sys2Proof.Machine.execHash64 s

end Sys2Proof.Machine
end

