-- ==== Sys2Proof/Machine/HostPort.lean ====
section
/-! DEFINITION. The host's ports: the register map (10_state.md R33, R34), the four host operations
(20_memory.md R62 to R65), and which agent moves next (R76). -/

namespace Sys2Proof.Machine

/-- The named registers of the register map (R33, 30_encoding.md R98). -/
inductive HostReg where
  | id | ctrl | status | cmd | seed | len | off | acc
  | lane1 | lane2 | lane3 | lane4 | digest | fcmd | foff | fneed | msgsz
  deriving DecidableEq, Repr

/-- The byte offset of a register (R33). -/
def HostReg.offset : HostReg → Word
  | .id => 0x00
  | .ctrl => 0x08
  | .status => 0x10
  | .cmd => 0x18
  | .seed => 0x20
  | .len => 0x28
  | .off => 0x30
  | .acc => 0x38
  | .lane1 => 0x40
  | .lane2 => 0x48
  | .lane3 => 0x50
  | .lane4 => 0x58
  | .digest => 0x60
  | .fcmd => 0x68
  | .foff => 0x70
  | .fneed => 0x78
  | .msgsz => 0x80

/-- What stands at a register offset. -/
inductive Slot where
  | reg (r : HostReg)
  /-- 0x88 to 0xF8 (R34). -/
  | reserved
  /-- Not a multiple of 8, or 0x100 or above (R71). -/
  | bad
  deriving DecidableEq, Repr

/-- The slot an offset selects (R33, R71). Log 11. -/
def slotAt (off : Word) : Slot :=
  if off.toNat % 8 ≠ 0 ∨ off.toNat ≥ 0x100 then .bad
  else
    match off.toNat / 8 with
    | 0 => .reg .id
    | 1 => .reg .ctrl
    | 2 => .reg .status
    | 3 => .reg .cmd
    | 4 => .reg .seed
    | 5 => .reg .len
    | 6 => .reg .off
    | 7 => .reg .acc
    | 8 => .reg .lane1
    | 9 => .reg .lane2
    | 10 => .reg .lane3
    | 11 => .reg .lane4
    | 12 => .reg .digest
    | 13 => .reg .fcmd
    | 14 => .reg .foff
    | 15 => .reg .fneed
    | 16 => .reg .msgsz
    | _ => .reserved

/-- The constant ID reads (R31). -/
def idValue : Word := 0x0000000143485858

/-- What a read of a register gives while its value is defined (R33). CTRL reads 0 (R28). -/
def State.regValue (s : State) : HostReg → Word
  | .id => idValue
  | .ctrl => 0
  | .status => s.status.word
  | .cmd => s.cmd
  | .seed => s.seed
  | .len => s.len
  | .off => s.off
  | .acc => s.acc
  | .lane1 => s.lanes.l1
  | .lane2 => s.lanes.l2
  | .lane3 => s.lanes.l3
  | .lane4 => s.lanes.l4
  | .digest => s.digest
  | .fcmd => s.fcmd
  | .foff => s.foff
  | .fneed => s.fneed
  | .msgsz => BitVec.ofNat 64 s.msgSize

/-- The registers a running command may be writing: a read of one while BUSY = 1 gives any value
(R62, 70_reset_and_hazards.md R255). -/
def HostReg.unstableWhileBusy : HostReg → Bool
  | .off => true
  | .acc => true
  | .lane1 => true
  | .lane2 => true
  | .lane3 => true
  | .lane4 => true
  | .digest => true
  | .id => false
  | .ctrl => false
  | .status => false
  | .cmd => false
  | .seed => false
  | .len => false
  | .fcmd => false
  | .foff => false
  | .fneed => false
  | .msgsz => false

/-- `RegRead(off)` (R62): the value returned and the state after. Log 3. -/
def State.regRead (s : State) (off : Word) : Word × State :=
  match slotAt off with
  | .bad => (0, s.refuse)
  | .reserved => (0, s)
  | .reg r =>
    if s.status.busy && r.unstableWhileBusy then
      (Config.freeWord s.draws, s.setDraws (s.draws + 1))
    else (s.regValue r, s)

/-- `RegWrite(off, v)` (R63). -/
def State.regWrite (s : State) (off v : Word) : State :=
  match slotAt off with
  | .bad => s.refuse
  | .reg .ctrl => if v.getLsbD 0 then s.softReset else s
  | .reg .cmd => if s.status.busy || s.status.fault then s.refuse else s.issue v
  | .reg .seed => if s.status.busy then s.refuse else s.setSeed v
  | .reg .len => if s.status.busy then s.refuse else (s.setLen v).setOff 0
  | _ => s

/-- `MsgRead(a)` (R65): the byte returned and the state after. -/
def State.msgRead (s : State) (a : Word) : Byte × State :=
  if a.toNat ≥ s.msgSize then (0, s.refuse)
  else (s.byteAt a.toNat s.draws, s.setDraws (s.draws + 1))

/-- `MsgWrite(a, b)` (R64). -/
def State.msgWrite (s : State) (a : Word) (b : Byte) : State :=
  if a.toNat ≥ s.msgSize ∨ s.status.busy then s.refuse
  else s.setMsg (Memory.insert s.msg a.toNat b)

/-- One host operation as a step, with what it returns to the host (log 8). -/
def State.hostAct (s : State) : HostOp → State
  | .regRead off =>
    let (v, t) := s.regRead off
    t.setResponse (some (.word v))
  | .regWrite off v => (s.regWrite off v).setResponse none
  | .msgRead a =>
    let (b, t) := s.msgRead a
    t.setResponse (some (.byte b))
  | .msgWrite a b => (s.msgWrite a b).setResponse none

/-! ### Which agent moves next (R76, 40_cursor.md R112) -/

/-- Who takes the next step. -/
inductive Turn where
  | core
  | host (op : HostOp)
  | hardReset
  /-- The core has no command and the host does nothing (60_exceptions.md R240). -/
  | idle
  deriving DecidableEq, Repr

/-- The core moves only while BUSY = 1 (R112). -/
def State.coreOrIdle (s : State) : Turn := if s.status.busy then .core else .idle

/-- The next turn, and the state with the event consumed. With no event left the core moves while
BUSY = 1 (70_reset_and_hazards.md R261, log 7). `wait` reads STATUS, and is tried again after a core
turn while the BUSY it reads is 1 (30_encoding.md R99, log 17). -/
def State.nextTurn (s : State) : Turn × State :=
  match s.inputs with
  | [] => (s.coreOrIdle, s)
  | .core :: rest => (s.coreOrIdle, s.setInputs rest)
  | .host op :: rest => (.host op, s.setInputs rest)
  | .hardReset :: rest => (.hardReset, s.setInputs rest)
  | .wait :: rest =>
    (.host (.regRead HostReg.status.offset),
      s.setInputs (if s.status.busy then .core :: .wait :: rest else rest))

end Sys2Proof.Machine
end

