-- ==== Sys2Proof/Machine/Step.lean ====
section
/-! DEFINITION. One step of the block: the host's turn or the core's (20_memory.md R76, 40_cursor.md
R112, R113). -/

namespace Sys2Proof.Machine

/-- The core's turn: decode PEND and perform its command, or raise ILLEGAL_CMD before anything else
changes (R112, R113). -/
def coreTurn (s : State) : Host.Outcome State Fault Refusal :=
  match decode s.fetchWord with
  | .instr i => exec i s
  | .rejected _ => .next (s.takeFault ⟨.illegalCmd, 0, 0⟩)

def step (s : State) : Host.Outcome State Fault Refusal :=
  match s.nextTurn with
  | (.core, t) => coreTurn t
  | (.host op, t) => .next (t.hostAct op)
  | (.hardReset, t) => .next t.hardReset
  | (.idle, t) => .next t

/-- `s` with the command word `w` accepted at CMD (R111), the sequencer idle, and the core's turn
next. It stands for the host's CMD write (log 9). -/
def State.withFetchWord (s : State) (nbits w : Nat) : State :=
  ((s.issue (BitVec.ofNat 64 (w % 2 ^ nbits))).setSeq .idle).setInputs (.core :: s.inputs)

end Sys2Proof.Machine
end

