-- ==== Sys2Proof/Machine/Script.lean ====
section
/-! DEFINITION. The host script (30_encoding.md R98, R99): its statements, and the events each
expands to. -/

namespace Sys2Proof.Machine

/-- The statements of R98 and the pseudo-statements of R99. -/
inductive Stmt where
  | wr (r : HostReg) (v : Word)
  | rd (r : HostReg)
  | wmsg (a : Word) (b : Byte)
  | rmsg (a : Word)
  | cmd (i : Instr)
  | cmdWord (w : Word)
  | wait
  | run (i : Instr)
  | wstr (a : Word) (text : List Char)
  | wbytes (a : Word) (bytes : List Byte)
  | load (text : List Char)
  | srst
  deriving DecidableEq, Repr

/-- The byte of a character: its ASCII code (R99). Log 19. -/
def charByte (c : Char) : Byte := BitVec.ofNat 8 c.toNat

/-- `wmsg a+i, b_i`, ascending (R99). Where a+i passes 2^64 - 1 the address wraps modulo 2^64, so that
later bytes go to address 0 and on: DESIGN CHOICE, the spec does not say. Log 20. -/
def writeBytes (a : Word) : List Byte → List Event
  | [] => []
  | b :: rest => .host (.msgWrite a b) :: writeBytes (a + 1) rest

def regWriteEvent (r : HostReg) (v : Word) : Event := .host (.regWrite r.offset v)

/-- The events of a statement (R98, R99). `load` writes the number of characters to LEN modulo 2^64:
DESIGN CHOICE, the spec does not say what is written for a number above 64 bits. Log 21. -/
def Stmt.expand : Stmt → List Event
  | .wr r v => [regWriteEvent r v]
  | .rd r => [.host (.regRead r.offset)]
  | .wmsg a b => [.host (.msgWrite a b)]
  | .rmsg a => [.host (.msgRead a)]
  | .cmd i => [regWriteEvent .cmd (encode i)]
  | .cmdWord w => [regWriteEvent .cmd w]
  | .wait => [.wait]
  | .run i => [regWriteEvent .cmd (encode i), .wait]
  | .wstr a text => writeBytes a (text.map charByte)
  | .wbytes a bytes => writeBytes a bytes
  | .load text =>
    writeBytes 0 (text.map charByte) ++ [regWriteEvent .len (BitVec.ofNat 64 text.length)]
  | .srst => [regWriteEvent .ctrl 1]

/-- A host program as the events it is. -/
def expandScript (program : List Stmt) : List Event := program.flatMap Stmt.expand

end Sys2Proof.Machine
end

