-- ==== Sys2Proof/Safety.lean ====
section
/-! DEFINITION. The terms claims about runs are stated in: the invariant of every reachable state,
the reference hash functions (44_oneshot.md R208), and the primitive sequences of R205. -/

namespace Sys2Proof.Machine

/-! ### The invariant -/

/-- What holds in every reachable state. -/
structure State.Inv (s : State) : Prop where
  /-- `0 ≤ OFF ≤ LEN` (10_state.md R23). -/
  off_le_len : s.off.toNat ≤ s.len.toNat
  /-- BUSY and FAULT are never both 1 (R27). -/
  busy_not_fault : s.status.busy = true → s.status.fault = false
  /-- DONE is cleared by an accepted CMD write and by a fault (R27). -/
  done_not_running : s.status.done = true → s.status.busy = false ∧ s.status.fault = false
  /-- PEND and CMD are the last accepted command word (R29, R35, 40_cursor.md R111). -/
  pend_eq_cmd : s.pend = s.cmd
  /-- SEQ is IDLE whenever BUSY = 0 (R35); it leaves IDLE only in a HASH whose message fits
  (44_oneshot.md R200). -/
  seq_running : s.seq ≠ .idle →
    s.status.busy = true ∧ (s.pend = 0x010 ∨ s.pend = 0x110) ∧ s.len.toNat ≤ s.msgSize
  /-- FCAUSE is 0 and the fault record clear when FAULT = 0 (R27, R30). -/
  no_fault_no_record : s.status.fault = false →
    s.status.fcause = 0 ∧ s.fcmd = 0 ∧ s.foff = 0 ∧ s.fneed = 0
  /-- A fault has a cause that R221 names, and FCMD is the faulting word, the last accepted (R30). -/
  fault_record : s.status.fault = true →
    1 ≤ s.status.fcause.toNat ∧ s.status.fcause.toNat ≤ 5 ∧ s.fcmd = s.cmd
  /-- The message memory keeps its canonical form and lies in MSG (20_memory.md R60). -/
  msg_wf : Memory.wf s.msg = true
  msg_inRange : Memory.inRange s.msg s.msgSize = true
  /-- 64 ≤ MSG_SIZE ≤ 2^63 (00_scope.md R8). -/
  msgSize_bounds : 64 ≤ s.msgSize ∧ s.msgSize ≤ 2 ^ 63

/-! ### The message -/

/-- MSG holds exactly these bytes from address 0 on, all of them written. -/
def State.Holds (s : State) (bytes : List Byte) : Prop :=
  ∀ k (h : k < bytes.length), Memory.lookup s.msg k = some bytes[k]

/-- The message `MSG[0 .. LEN-1]` (R61) is `bytes`, every byte of it written. -/
def State.Message (s : State) (bytes : List Byte) : Prop :=
  s.len.toNat = bytes.length ∧ s.Holds bytes

/-- LANE, ACC, OFF and DIGEST, the datapath registers a command may write (R38). -/
def State.datapath (s : State) : Lanes Word × Word × Word × Word := (s.lanes, s.acc, s.off, s.digest)

/-! ### The reference functions, over a list of bytes (44_oneshot.md R208)

Written without the machine: the number of stripes, groups and single bytes is computed by division,
where the commands loop over what remains. -/

/-- A little-endian value (20_memory.md R66). -/
def leValue : List Byte → Nat
  | [] => 0
  | b :: rest => b.toNat + 256 * leValue rest

/-- The `k` bytes from index `i` on, as a little-endian value. -/
def group (m : List Byte) (i k : Nat) : Nat := leValue ((m.drop i).take k)

/-- The lanes after `n` stripes of `4 * k` bytes from the front of `m`. -/
def refStripes {α : Type} (k : Nat) (ofNat : Nat → α) (round : α → α → α) :
    Nat → List Byte → Lanes α → Lanes α
  | 0, _, l => l
  | n + 1, m, l =>
    refStripes k ofNat round n (m.drop (4 * k))
      ⟨round l.l1 (ofNat (group m 0 k)), round l.l2 (ofNat (group m k k)),
        round l.l3 (ofNat (group m (2 * k) k)), round l.l4 (ofNat (group m (3 * k) k))⟩

/-- `n` folds of `k`-byte groups from the front of `m`. -/
def refFolds {α : Type} (k : Nat) (ofNat : Nat → α) (fold : α → α → α) :
    Nat → List Byte → α → α
  | 0, _, acc => acc
  | n + 1, m, acc => refFolds k ofNat fold n (m.drop k) (fold acc (ofNat (group m 0 k)))

/-- Reference xxHash32 of a message with a 32-bit seed (R201, R208). -/
def xxHash32 (seed : Word32) (m : List Byte) : Word32 :=
  let n := m.length
  let start :=
    if 16 ≤ n then
      converge32 (refStripes 4 (BitVec.ofNat 32) round32 (n / 16) m (initLanes32 seed))
    else seed + P5_32
  let tail := m.drop (n / 16 * 16)
  let acc4 := refFolds 4 (BitVec.ofNat 32) fold4W32 (tail.length / 4) tail (start + BitVec.ofNat 32 n)
  let tail1 := tail.drop (tail.length / 4 * 4)
  aval32 (refFolds 1 (BitVec.ofNat 32) fold1W32 tail1.length tail1 acc4)

/-- Reference xxHash64 of a message with a 64-bit seed (R202, R208). -/
def xxHash64 (seed : Word) (m : List Byte) : Word :=
  let n := m.length
  let start :=
    if 32 ≤ n then
      converge64 (refStripes 8 (BitVec.ofNat 64) round64 (n / 32) m (initLanes64 seed))
    else seed + P5_64
  let tail := m.drop (n / 32 * 32)
  let acc8 := refFolds 8 (BitVec.ofNat 64) fold8W64 (tail.length / 8) tail (start + BitVec.ofNat 64 n)
  let tail4 := tail.drop (tail.length / 8 * 8)
  let acc4 := refFolds 4 (BitVec.ofNat 64) fold4W64 (tail4.length / 4) tail4 acc8
  let tail1 := tail4.drop (tail4.length / 4 * 4)
  aval64 (refFolds 1 (BitVec.ofNat 64) fold1W64 tail1.length tail1 acc4)

/-! ### The primitive sequences (44_oneshot.md R205) -/

/-- The stripe phase or the short-input start of a message of `n` bytes. -/
def startCommands (n stripe : Nat) (init round conv seed : Instr) : List Instr :=
  if stripe ≤ n then init :: (List.replicate (n / stripe) round).append [conv] else [seed]

/-- The primitives HASH.32 takes for a message of `n` bytes, after CUR.RESET (R201). -/
def primitives32 (n : Nat) : List Instr :=
  List.flatten
    [[Instr.curReset],
     startCommands n 16 .laneInit32 .laneStripe32 .laneConv32 .accSeed32,
     [Instr.accLen32],
     List.replicate (n % 16 / 4) Instr.tail4W32,
     List.replicate (n % 4) Instr.tail1W32,
     [Instr.accAval32]]

/-- The primitives HASH.64 takes for a message of `n` bytes, after CUR.RESET (R202). -/
def primitives64 (n : Nat) : List Instr :=
  List.flatten
    [[Instr.curReset],
     startCommands n 32 .laneInit64 .laneStripe64 .laneConv64 .accSeed64,
     [Instr.accLen64],
     List.replicate (n % 32 / 8) Instr.tail8W64,
     List.replicate (n % 8 / 4) Instr.tail4W64,
     List.replicate (n % 4) Instr.tail1W64,
     [Instr.accAval64]]

/-- The commands of a list, each issued and run to its end in turn with no host access between
(40_cursor.md R111, R112). A command that finds the block faulted is refused, and the list ends. -/
def runCommands : List Instr → State → Host.Outcome State Fault Refusal
  | [], s => .next s
  | i :: rest, s =>
    if s.status.fault then .next s
    else
      match exec i (s.issue (encode i)) with
      | .next t => runCommands rest t
      | .fault f => .fault f
      | .refused r => .refused r

/-! ### What the host can do to a running command -/

/-- An event that abandons a running command: the reset input, or a CTRL write with SRST (R250,
R251). -/
def Event.abandons : Event → Bool
  | .hardReset => true
  | .host (.regWrite off v) => slotAt off == .reg .ctrl && v.getLsbD 0
  | .host (.regRead _) => false
  | .host (.msgRead _) => false
  | .host (.msgWrite _ _) => false
  | .core => false
  | .wait => false

/-- The next event, if there is one, abandons nothing. -/
def State.NoResetNext (s : State) : Prop := ∀ e rest, s.inputs = e :: rest → e.abandons = false

/-! ### How a command ends, written out whole -/

/-- `s` with completion's writes and no other (40_cursor.md R114). -/
def State.afterCompletion (s : State) : State :=
  { s with status := { s.status with busy := false, done := true }, seq := .idle }

/-- `s` with fault entry's writes and no other (60_exceptions.md R227). -/
def State.afterFault (s : State) (code : BitVec 4) (o n : Word) : State :=
  { s with
    status := { s.status with busy := false, done := false, fault := true, fcause := code }
    seq := .idle, fcmd := s.pend, foff := o, fneed := n }

/-- The core step of HASH command `h` at `s` is the body of primitive `i`: what `i` does when it
completes, with STATUS kept and SEQ at `phase` (00_scope.md R15, 44_oneshot.md R204). -/
def State.HashDoes (s : State) (h i : Instr) (phase : SeqPhase) : Prop :=
  ∃ t, exec i s = .next t ∧ t.status.done = true ∧
    exec h s = .next { t with status := s.status, seq := phase }

/-! ### Classes of commands and states -/

/-- HASH.32 or HASH.64. -/
def isHash (i : Instr) : Bool := i == .hash32 || i == .hash64

/-- The commands of width 32 (30_encoding.md R91). -/
def narrowCommands : List Instr :=
  [Instr.laneInit32, Instr.laneStripe32, Instr.laneConv32, Instr.accSeed32, Instr.accLen32,
   Instr.tail4W32, Instr.tail1W32, Instr.accAval32, Instr.hash32]

/-- Two states that differ at most in bits 63:32 of SEED, ACC and the lanes. -/
def State.SameLow32 (s t : State) : Prop :=
  ∃ (x a : Word) (l : Lanes Word), t = { s with seed := x, acc := a, lanes := l } ∧
    lo32 x = lo32 s.seed ∧ lo32 a = lo32 s.acc ∧ l.map lo32 = s.lanes.map lo32

/-- Bits 63:32 are 0 (10_state.md R38). -/
def UpperZero (v : Word) : Prop := v.toNat < 2 ^ 32

end Sys2Proof.Machine
end

