-- ==== Sys2Proof/Certificates/Slice0/Obligations.lean ====
section
/-! DEFINITION. The statements about the model, for the provers. -/

open Sys2Proof Sys2Proof.Machine

/-! ### Encoding -/

/-- 30_encoding.md R92: the 21 words, each with its command, and no other word is a command. -/
def Obligations.LegalWordsAreTheTable : Prop :=
  ∀ (w : Word) (i : Instr), decode w = .instr i ↔
    (w, i) ∈ ([(0x000, .nop), (0x001, .curReset),
      (0x002, .laneInit32), (0x102, .laneInit64),
      (0x003, .laneStripe32), (0x103, .laneStripe64),
      (0x004, .laneConv32), (0x104, .laneConv64),
      (0x005, .accSeed32), (0x105, .accSeed64),
      (0x006, .accLen32), (0x106, .accLen64),
      (0x107, .tail8W64), (0x008, .tail4W32), (0x108, .tail4W64),
      (0x009, .tail1W32), (0x109, .tail1W64),
      (0x00A, .accAval32), (0x10A, .accAval64),
      (0x010, .hash32), (0x110, .hash64)] : List (Word × Instr))

/-- Decoding and encoding agree in both directions, over all commands and all 2^64 words. -/
def Obligations.DecodeInvertsEncode : Prop :=
  ∀ (w : Word) (i : Instr), decode w = .instr i ↔ w = encode i

/-- Words written out as RSV, W, OP (30_encoding.md section 1) decode to the commands they stand for. -/
def Obligations.WrittenOutWordsDecode : Prop :=
  decode (0#55 ++ 0b0#1 ++ 0b00000000#8) = .instr .nop ∧
  decode (0#55 ++ 0b1#1 ++ 0b00000011#8) = .instr .laneStripe64 ∧
  decode (0#55 ++ 0b0#1 ++ 0b00000101#8) = .instr .accSeed32 ∧
  decode (0#55 ++ 0b1#1 ++ 0b00000111#8) = .instr .tail8W64 ∧
  decode (0#55 ++ 0b0#1 ++ 0b00001010#8) = .instr .accAval32 ∧
  decode (0#55 ++ 0b1#1 ++ 0b00010000#8) = .instr .hash64 ∧
  decode (1#55 ++ 0b1#1 ++ 0b00010000#8) = .rejected .reservedBits ∧
  decode (0#55 ++ 0b0#1 ++ 0b00001011#8) = .rejected .reservedOp ∧
  decode (0#55 ++ 0b0#1 ++ 0b00000111#8) = .rejected .widthForbidden

/-- 30_encoding.md R94 and 60_exceptions.md R222: the field conditions that make a word illegal; the
core's turn with an illegal word raises ILLEGAL_CMD and changes nothing but the fault state. -/
def Obligations.IllegalWordRaisesIllegalCmd : Prop :=
  (∀ w : Word, (∃ i, decode w = .instr i) ↔
    ¬ (w.extractLsb' 9 55 ≠ 0 ∨
       (0x0B ≤ w.toNat % 256 ∧ w.toNat % 256 ≤ 0x0F) ∨ 0x11 ≤ w.toNat % 256 ∨
       (w.toNat % 256 ≤ 1 ∧ w.getLsbD 8 = true) ∨
       (w.toNat % 256 = 7 ∧ w.getLsbD 8 = false))) ∧
  (∀ w : Word, (∃ i, decode w = .instr i) ↔ ∃ i, w = encode i) ∧
  (∀ s : State, (¬ ∃ i, decode s.pend = .instr i) → coreTurn s = .next (s.afterFault 1 0 0))

/-! ### The step -/

/-- The core's turn runs the command PEND holds (40_cursor.md section 1). That the core moves when no
event is left is the model's choice (log 7). The second clause is about `withFetchWord`, which is the
model's own way to place a command (log 9): it does so in every state, also where BUSY = 1 or FAULT = 1
and the block would refuse the CMD write. -/
def Obligations.CoreTurnRunsThePendingCommand : Prop :=
  (∀ (s : State) (i : Instr), s.status.busy = true →
    (s.inputs = [] ∨ ∃ rest, s.inputs = .core :: rest) → decode s.pend = .instr i →
    step s = exec i { s with inputs := s.inputs.tail }) ∧
  (∀ (s : State) (i : Instr), step (s.withFetchWord 64 (encode i).toNat) =
    exec i { s with
      cmd := encode i, pend := encode i, seq := .idle
      status := { s.status with busy := true, done := false } })

/-- Each event is one step: a host operation, the reset input, a core turn with nothing to do, or one
poll of `wait`, which is tried again after a core turn while BUSY = 1. The order of poll and core
turn, and that an empty list of events leaves an idle block as it is, are the model's choice (logs 7
and 17). -/
def Obligations.EachEventIsOneStep : Prop :=
  (∀ (s : State) (op : HostOp) (rest : List Event), s.inputs = .host op :: rest →
    step s = .next ({ s with inputs := rest }.hostAct op)) ∧
  (∀ (s : State) (rest : List Event), s.inputs = .hardReset :: rest →
    step s = .next { s with inputs := rest }.hardReset) ∧
  (∀ (s : State) (rest : List Event), s.status.busy = false → s.inputs = .core :: rest →
    step s = .next { s with inputs := rest }) ∧
  (∀ s : State, s.status.busy = false → s.inputs = [] → step s = .next s) ∧
  (∀ (s : State) (rest : List Event), s.inputs = .wait :: rest →
    step s = .next { s with
      response := some (.word s.status.word)
      inputs := if s.status.busy then .core :: .wait :: rest else rest })

/-- Nothing stops the machine: every command and every step answers a next state. That a fault of the
spec is a next state with the block halted, and no stop, is the model's reading (log 14). -/
def Obligations.EveryStepGoesOn : Prop :=
  (∀ (i : Instr) (s : State), ∃ t, exec i s = .next t) ∧ (∀ s : State, ∃ t, step s = .next t)

/-- Every command but HASH ends in its one core step, completed or faulted (40_cursor.md section 1). -/
def Obligations.PrimitivesEndInOneStep : Prop :=
  ∀ (i : Instr) (s t : State), isHash i = false → exec i s = .next t →
    t.status.busy = false ∧ t.seq = .idle ∧ t.status.herr = s.status.herr ∧
      ((t.status.done = true ∧ t.status.fault = s.status.fault ∧
          t.status.fcause = s.status.fcause ∧
          t.fcmd = s.fcmd ∧ t.foff = s.foff ∧ t.fneed = s.fneed) ∨
        (t.status.done = false ∧ t.status.fault = true ∧ t.fcmd = s.pend ∧
          2 ≤ t.status.fcause.toNat ∧ t.status.fcause.toNat ≤ 5))

/-! ### Taking a fault -/

/-- 60_exceptions.md R227, with the codes of R221: what fault entry writes, and that it writes nothing
else. -/
def Obligations.FaultEntryWritesTheRecord : Prop :=
  ∀ (s : State) (o n : Word) (c : Cause) (code : BitVec 4),
    (c, code) ∈ ([(.illegalCmd, 1), (.cursorOverrun, 2), (.msgRange, 3), (.lenRange, 4),
      (.unconsumed, 5)] : List (Cause × BitVec 4)) →
    s.takeFault ⟨c, o, n⟩ =
      { s with
        status :=
          { busy := false, done := false, fault := true, herr := s.status.herr, fcause := code }
        fcmd := s.pend, foff := o, fneed := n, seq := .idle }

/-! ### The cursor -/

/-- 40_cursor.md section 2: the checks in order, the value, and the advance; where the cursor's
invariant holds and enough bytes remain, OFF + n stays within LEN, so the sum cannot wrap. The draws
are the model's choice (log 2). -/
def Obligations.CursorReadChecksThenAdvances : Prop :=
  ∀ (s : State) (n : Nat), n ∈ [1, 4, 8] →
    ((s.len - s.off).toNat < n →
      s.curRead n = .error ⟨.cursorOverrun, s.off, BitVec.ofNat 64 n⟩) ∧
    (n ≤ (s.len - s.off).toNat → s.msgSize < s.off.toNat + n →
      s.curRead n = .error ⟨.msgRange, s.off, BitVec.ofNat 64 n⟩) ∧
    (n ≤ (s.len - s.off).toNat → s.off.toNat + n ≤ s.msgSize →
      s.curRead n = .ok (s.memRead s.off.toNat s.draws n,
        { s with off := s.off + BitVec.ofNat 64 n, draws := s.draws + n })) ∧
    (s.off.toNat ≤ s.len.toNat → n ≤ (s.len - s.off).toNat → s.off.toNat + n ≤ s.len.toNat)

/-- A stripe read that does not fault returns what four sequential reads return, slot 1 first
(40_cursor.md section 2). Unwritten bytes agree only because the model numbers the draws so (log 2). -/
def Obligations.StripeReadIsFourReads : Prop :=
  ∀ (s : State) (k : Nat), k = 4 ∨ k = 8 → s.off.toNat + 4 * k ≤ s.len.toNat →
    s.off.toNat + 4 * k ≤ s.msgSize →
    ∃ v1 v2 v3 v4 s1 s2 s3 s4,
      s.curRead k = .ok (v1, s1) ∧ s1.curRead k = .ok (v2, s2) ∧
      s2.curRead k = .ok (v3, s3) ∧ s3.curRead k = .ok (v4, s4) ∧
      s.curReadStripe k = .ok (⟨v1, v2, v3, v4⟩, s4)

/-- 20_memory.md section 3: MemRead is the little-endian sum of its bytes. Of an unwritten byte only that
it is some byte is used; that the byte at a + i has draw number draw + i is the model's choice (log
2). -/
def Obligations.MemReadIsLittleEndian : Prop :=
  ∀ (s : State) (a draw n : Nat),
    s.memRead a draw n =
      ∑ i ∈ Finset.range n, (s.byteAt (a + i) (draw + i)).toNat * 2 ^ (8 * i)

/-- Reads of mixed widths fit together (20_memory.md section 3). Unwritten bytes agree only because the
model gives each byte the same draw in both reads, which is the model's choice (log 2): the spec draws
them independently at each read. -/
def Obligations.MixedWidthReadsAgree : Prop :=
  ∀ (s : State) (a draw : Nat),
    s.memRead a draw 8 = s.memRead (a + 4) (draw + 4) 4 * 2 ^ 32 + s.memRead a draw 4 ∧
    s.memRead a draw 4 =
      ∑ i ∈ Finset.range 4, s.memRead (a + i) (draw + i) 1 * 2 ^ (8 * i)

/-! ### Results of the primitive commands

Each gives the whole next state: every register not named keeps its value, and so does every byte of
the message, since `msg` is kept. -/

/-- 40_cursor.md R120 and R121. -/
def Obligations.NopAndCursorReset : Prop :=
  (encode .nop = 0x000 ∧ (¬ ∃ i, decode 0x100 = .instr i) ∧
    ∀ s : State, exec .nop s = .next s.afterCompletion) ∧
  (encode .curReset = 0x001 ∧ (¬ ∃ i, decode 0x101 = .instr i) ∧
    ∀ s : State, exec .curReset s = .next { s with off := 0 }.afterCompletion ∧
      { s with off := 0 }.afterCompletion.remaining = s.len)

/-- 41_stripe.md R142 and R143. -/
def Obligations.LaneInitFromSeed : Prop :=
  (encode .laneInit32 = 0x002 ∧ ∀ s : State, exec .laneInit32 s = .next
    { s with lanes :=
      ⟨(s.seed.setWidth 32 + 0x9E3779B1#32 + 0x85EBCA77#32).setWidth 64,
       (s.seed.setWidth 32 + 0x85EBCA77#32).setWidth 64,
       (s.seed.setWidth 32 : BitVec 32).setWidth 64,
       (s.seed.setWidth 32 - 0x9E3779B1#32).setWidth 64⟩ }.afterCompletion) ∧
  (encode .laneInit64 = 0x102 ∧ ∀ s : State, exec .laneInit64 s = .next
    { s with lanes :=
      ⟨s.seed + 0x9E3779B185EBCA87#64 + 0xC2B2AE3D27D4EB4F#64, s.seed + 0xC2B2AE3D27D4EB4F#64, s.seed,
       s.seed - 0x9E3779B185EBCA87#64⟩ }.afterCompletion)

/-- 41_stripe.md section 3, width 32: the round on each lane, or the fault; the values are the four
little-endian groups from the cursor on. The draws and their numbers are the model's choice (log 2). -/
def Obligations.LaneStripe32Rounds : Prop :=
  encode .laneStripe32 = 0x003 ∧ ∀ s : State,
    ((s.len - s.off).toNat < 16 → exec .laneStripe32 s = .next (s.afterFault 2 s.off 16)) ∧
    (16 ≤ (s.len - s.off).toNat → s.msgSize < s.off.toNat + 16 →
      exec .laneStripe32 s = .next (s.afterFault 3 s.off 16)) ∧
    (16 ≤ (s.len - s.off).toNat → s.off.toNat + 16 ≤ s.msgSize →
      ∀ round : Word → Nat → Word,
        (∀ a k, round a k =
          ((a.setWidth 32 +
              BitVec.ofNat 32 (s.memRead (s.off.toNat + k) (s.draws + k) 4) *
                0x85EBCA77#32).rotateLeft 13 * 0x9E3779B1#32).setWidth 64) →
        exec .laneStripe32 s = .next
          { s with
            lanes := ⟨round s.lanes.l1 0, round s.lanes.l2 4, round s.lanes.l3 8,
              round s.lanes.l4 12⟩
            off := s.off + 16, draws := s.draws + 16 }.afterCompletion)

/-- 41_stripe.md section 3, width 64. The draws and their numbers are the model's choice (log 2). -/
def Obligations.LaneStripe64Rounds : Prop :=
  encode .laneStripe64 = 0x103 ∧ ∀ s : State,
    ((s.len - s.off).toNat < 32 → exec .laneStripe64 s = .next (s.afterFault 2 s.off 32)) ∧
    (32 ≤ (s.len - s.off).toNat → s.msgSize < s.off.toNat + 32 →
      exec .laneStripe64 s = .next (s.afterFault 3 s.off 32)) ∧
    (32 ≤ (s.len - s.off).toNat → s.off.toNat + 32 ≤ s.msgSize →
      ∀ round : Word → Nat → Word,
        (∀ a k, round a k =
          (a + BitVec.ofNat 64 (s.memRead (s.off.toNat + k) (s.draws + k) 8) *
                0xC2B2AE3D27D4EB4F#64).rotateLeft 31 * 0x9E3779B185EBCA87#64) →
        exec .laneStripe64 s = .next
          { s with
            lanes := ⟨round s.lanes.l1 0, round s.lanes.l2 8, round s.lanes.l3 16,
              round s.lanes.l4 24⟩
            off := s.off + 32, draws := s.draws + 32 }.afterCompletion)

/-- Each lane depends on its own slot and its own old value alone, whichever datapath computes it
(41_stripe.md section 3). The two forms of `laneRounds` are the model's reading of LANE_IMPL's two
values (log 5). -/
def Obligations.LaneImplIsNotObservable : Prop :=
  ∀ (impl : LaneImpl) (s : State) (v32 : Lanes Word32) (v64 : Lanes Word),
    laneRounds impl round32 s.lanes32 v32 =
      ⟨round32 s.lanes32.l1 v32.l1, round32 s.lanes32.l2 v32.l2, round32 s.lanes32.l3 v32.l3,
        round32 s.lanes32.l4 v32.l4⟩ ∧
    laneRounds impl round64 s.lanes v64 =
      ⟨round64 s.lanes.l1 v64.l1, round64 s.lanes.l2 v64.l2, round64 s.lanes.l3 v64.l3,
        round64 s.lanes.l4 v64.l4⟩

/-- 41_stripe.md R147, R148 and R149: the rotate-sum; for width 64 the four merges in lane order, each
with the whole round function of accumulator 0. -/
def Obligations.LaneConvergence : Prop :=
  (encode .laneConv32 = 0x004 ∧ ∀ s : State, exec .laneConv32 s = .next
    { s with acc :=
      ((s.lanes.l1.setWidth 32 : BitVec 32).rotateLeft 1 +
        (s.lanes.l2.setWidth 32 : BitVec 32).rotateLeft 7 +
        (s.lanes.l3.setWidth 32 : BitVec 32).rotateLeft 12 +
        (s.lanes.l4.setWidth 32 : BitVec 32).rotateLeft 18).setWidth 64 }.afterCompletion) ∧
  (encode .laneConv64 = 0x104 ∧ ∀ (s : State) (merge : Word → Word → Word),
    (∀ acc l, merge acc l =
      (acc ^^^ ((l * 0xC2B2AE3D27D4EB4F#64).rotateLeft 31 * 0x9E3779B185EBCA87#64)) *
        0x9E3779B185EBCA87#64 + 0x85EBCA77C2B2AE63#64) →
    exec .laneConv64 s = .next
      { s with
        acc :=
          [s.lanes.l1, s.lanes.l2, s.lanes.l3, s.lanes.l4].foldl merge
            (s.lanes.l1.rotateLeft 1 + s.lanes.l2.rotateLeft 7 + s.lanes.l3.rotateLeft 12 +
              s.lanes.l4.rotateLeft 18) }.afterCompletion)

/-- 42_tail.md R160 and R161. -/
def Obligations.AccSeedAddsP5 : Prop :=
  (encode .accSeed32 = 0x005 ∧ ∀ s : State, exec .accSeed32 s = .next
    { s with acc := (s.seed.setWidth 32 + 0x165667B1#32).setWidth 64 }.afterCompletion) ∧
  (encode .accSeed64 = 0x105 ∧ ∀ s : State, exec .accSeed64 s = .next
    { s with acc := s.seed + 0x27D4EB2F165667C5#64 }.afterCompletion)

/-- 42_tail.md R162 and R163: the low 32 bits of LEN, or all of it. -/
def Obligations.AccLenFoldsTheLength : Prop :=
  (encode .accLen32 = 0x006 ∧ ∀ s : State, exec .accLen32 s = .next
    { s with acc := BitVec.ofNat 64 ((s.acc.toNat + s.len.toNat) % 2 ^ 32) }.afterCompletion) ∧
  (encode .accLen64 = 0x106 ∧ ∀ s : State, exec .accLen64 s = .next
    { s with acc := s.acc + s.len }.afterCompletion)

/-- 42_tail.md section 3: the three 64-bit folds, with their two faults. The group read is
zero-extended to 64 bits. The draws and their numbers are the model's choice (log 2). -/
def Obligations.Tail64Folds : Prop :=
  (encode .tail8W64 = 0x107 ∧ encode .tail4W64 = 0x108 ∧ encode .tail1W64 = 0x109 ∧
    ¬ ∃ i, decode 0x007 = .instr i) ∧
  ∀ (s : State) (i : Instr) (n : Nat) (fold : Word → Word),
    ((i = .tail8W64 ∧ n = 8 ∧ ∀ v, fold v =
        (s.acc ^^^ ((v * 0xC2B2AE3D27D4EB4F#64).rotateLeft 31 * 0x9E3779B185EBCA87#64)).rotateLeft 27 *
          0x9E3779B185EBCA87#64 + 0x85EBCA77C2B2AE63#64) ∨
      (i = .tail4W64 ∧ n = 4 ∧ ∀ v, fold v =
        (s.acc ^^^ (v * 0x9E3779B185EBCA87#64)).rotateLeft 23 *
          0xC2B2AE3D27D4EB4F#64 + 0x165667B19E3779F9#64) ∨
      (i = .tail1W64 ∧ n = 1 ∧ ∀ v, fold v =
        (s.acc ^^^ (v * 0x27D4EB2F165667C5#64)).rotateLeft 11 * 0x9E3779B185EBCA87#64)) →
    ((s.len - s.off).toNat < n →
      exec i s = .next (s.afterFault 2 s.off (BitVec.ofNat 64 n))) ∧
    (n ≤ (s.len - s.off).toNat → s.msgSize < s.off.toNat + n →
      exec i s = .next (s.afterFault 3 s.off (BitVec.ofNat 64 n))) ∧
    (n ≤ (s.len - s.off).toNat → s.off.toNat + n ≤ s.msgSize →
      exec i s = .next
        { s with
          acc := fold (BitVec.ofNat 64 (s.memRead s.off.toNat s.draws n))
          off := s.off + BitVec.ofNat 64 n, draws := s.draws + n }.afterCompletion)

/-- 42_tail.md section 3: the two 32-bit folds, with their two faults. The draws and their numbers are
the model's choice (log 2). -/
def Obligations.Tail32Folds : Prop :=
  (encode .tail4W32 = 0x008 ∧ encode .tail1W32 = 0x009) ∧
  ∀ (s : State) (i : Instr) (n : Nat) (fold : Word32 → Word32),
    ((i = .tail4W32 ∧ n = 4 ∧ ∀ v, fold v =
        (s.acc.setWidth 32 + v * 0xC2B2AE3D#32).rotateLeft 17 * 0x27D4EB2F#32) ∨
      (i = .tail1W32 ∧ n = 1 ∧ ∀ v, fold v =
        (s.acc.setWidth 32 + v * 0x165667B1#32).rotateLeft 11 * 0x9E3779B1#32)) →
    ((s.len - s.off).toNat < n →
      exec i s = .next (s.afterFault 2 s.off (BitVec.ofNat 64 n))) ∧
    (n ≤ (s.len - s.off).toNat → s.msgSize < s.off.toNat + n →
      exec i s = .next (s.afterFault 3 s.off (BitVec.ofNat 64 n))) ∧
    (n ≤ (s.len - s.off).toNat → s.off.toNat + n ≤ s.msgSize →
      exec i s = .next
        { s with
          acc := (fold (BitVec.ofNat 32 (s.memRead s.off.toNat s.draws n))).setWidth 64
          off := s.off + BitVec.ofNat 64 n, draws := s.draws + n }.afterCompletion)

/-- 43_finalize.md R190 to R193: UNCONSUMED while bytes remain, else the avalanche into ACC and
DIGEST. -/
def Obligations.AvalancheOrUnconsumed : Prop :=
  (encode .accAval32 = 0x00A ∧ encode .accAval64 = 0x10A) ∧
  (∀ (s : State) (i : Instr), i = .accAval32 ∨ i = .accAval64 → s.len - s.off ≠ 0 →
    exec i s = .next (s.afterFault 5 s.off (s.len - s.off))) ∧
  (∀ (s : State) (a0 a1 a2 a3 a4 a5 : Word32), s.len - s.off = 0 →
    a0 = s.acc.setWidth 32 → a1 = a0 ^^^ (a0 >>> 15) → a2 = a1 * 0x85EBCA77#32 →
    a3 = a2 ^^^ (a2 >>> 13) → a4 = a3 * 0xC2B2AE3D#32 → a5 = a4 ^^^ (a4 >>> 16) →
    exec .accAval32 s = .next
      { s with acc := a5.setWidth 64, digest := a5.setWidth 64 }.afterCompletion) ∧
  (∀ (s : State) (a1 a2 a3 a4 a5 : Word), s.len - s.off = 0 →
    a1 = s.acc ^^^ (s.acc >>> 33) → a2 = a1 * 0xC2B2AE3D27D4EB4F#64 →
    a3 = a2 ^^^ (a2 >>> 29) → a4 = a3 * 0x165667B19E3779F9#64 → a5 = a4 ^^^ (a4 >>> 32) →
    exec .accAval64 s = .next { s with acc := a5, digest := a5 }.afterCompletion)

/-! ### HASH -/

/-- 44_oneshot.md section 1: LEN_RANGE, the long path, the short path. That all of it is one core step
with the first `do`, and the phases of SEQ, are the model's reading (log 10). -/
def Obligations.HashStartChoosesThePath : Prop :=
  (encode .hash32 = 0x010 ∧ encode .hash64 = 0x110) ∧
  ∀ s : State, s.seq = .idle →
    (∀ i, i = .hash32 ∨ i = .hash64 → s.msgSize < s.len.toNat →
      exec i s = .next (s.afterFault 4 0 0)) ∧
    (s.len.toNat ≤ s.msgSize → 16 ≤ s.len.toNat →
      exec .hash32 s = .next
        { s with
          off := 0, seq := .stripes
          lanes := (initLanes32 (s.seed.setWidth 32)).map (BitVec.setWidth 64) }) ∧
    (s.len.toNat ≤ s.msgSize → s.len.toNat < 16 →
      exec .hash32 s = .next
        { s with
          off := 0, seq := .lengthFold
          acc := (s.seed.setWidth 32 + 0x165667B1#32).setWidth 64 }) ∧
    (s.len.toNat ≤ s.msgSize → 32 ≤ s.len.toNat →
      exec .hash64 s = .next
        { s with off := 0, seq := .stripes, lanes := initLanes64 s.seed }) ∧
    (s.len.toNat ≤ s.msgSize → s.len.toNat < 32 →
      exec .hash64 s = .next
        { s with off := 0, seq := .lengthFold, acc := s.seed + 0x27D4EB2F165667C5#64 })

/-- Each later core step of HASH.32 is the body of one primitive, in the order of 44_oneshot.md section
1; the last is ACC.AVAL.32, which completes. The phases of SEQ are the model's (log 10). -/
def Obligations.Hash32StepsArePrimitives : Prop :=
  ∀ s : State,
    (s.seq = .stripes → 16 ≤ (s.len - s.off).toNat → s.off.toNat + 16 ≤ s.msgSize →
      s.HashDoes .hash32 .laneStripe32 .stripes) ∧
    (s.seq = .stripes → (s.len - s.off).toNat < 16 →
      s.HashDoes .hash32 .laneConv32 .lengthFold) ∧
    (s.seq = .lengthFold → s.HashDoes .hash32 .accLen32 .tail) ∧
    (s.seq = .tail → 4 ≤ (s.len - s.off).toNat → s.off.toNat + 4 ≤ s.msgSize →
      s.HashDoes .hash32 .tail4W32 .tail) ∧
    (s.seq = .tail → 1 ≤ (s.len - s.off).toNat → (s.len - s.off).toNat < 4 →
      s.off.toNat + 1 ≤ s.msgSize → s.HashDoes .hash32 .tail1W32 .tail) ∧
    (s.seq = .tail → s.len = s.off →
      exec .hash32 s = exec .accAval32 s ∧
      exec .hash32 s = .next { s with
        acc := (aval32 (s.acc.setWidth 32)).setWidth 64
        digest := (aval32 (s.acc.setWidth 32)).setWidth 64 }.afterCompletion)

/-- Each later core step of HASH.64 is the body of one primitive, in the order of 44_oneshot.md section
1; the last is ACC.AVAL.64, which completes. The phases of SEQ are the model's (log 10). -/
def Obligations.Hash64StepsArePrimitives : Prop :=
  ∀ s : State,
    (s.seq = .stripes → 32 ≤ (s.len - s.off).toNat → s.off.toNat + 32 ≤ s.msgSize →
      s.HashDoes .hash64 .laneStripe64 .stripes) ∧
    (s.seq = .stripes → (s.len - s.off).toNat < 32 →
      s.HashDoes .hash64 .laneConv64 .lengthFold) ∧
    (s.seq = .lengthFold → s.HashDoes .hash64 .accLen64 .tail) ∧
    (s.seq = .tail → 8 ≤ (s.len - s.off).toNat → s.off.toNat + 8 ≤ s.msgSize →
      s.HashDoes .hash64 .tail8W64 .tail) ∧
    (s.seq = .tail → 4 ≤ (s.len - s.off).toNat → (s.len - s.off).toNat < 8 →
      s.off.toNat + 4 ≤ s.msgSize → s.HashDoes .hash64 .tail4W64 .tail) ∧
    (s.seq = .tail → 1 ≤ (s.len - s.off).toNat → (s.len - s.off).toNat < 4 →
      s.off.toNat + 1 ≤ s.msgSize → s.HashDoes .hash64 .tail1W64 .tail) ∧
    (s.seq = .tail → s.len = s.off →
      exec .hash64 s = exec .accAval64 s ∧
      exec .hash64 s = .next
        { s with acc := aval64 s.acc, digest := aval64 s.acc }.afterCompletion)

/-- HASH.32 left to itself completes with the reference digest of the message, within the step bound,
every byte consumed, and without a fault (44_oneshot.md sections 1 and 2, 70_reset_and_hazards.md
section 3). That the core moves when no event is left is the model's choice (log 7). -/
def Obligations.Hash32ComputesXxHash32 : Prop :=
  ∀ (s : State) (m : List Byte), s.inputs = [] → s.status.busy = true → s.pend = 0x010 →
    s.seq = .idle → s.Message m → m.length ≤ s.msgSize →
    ∃ (n : Nat) (t : State), n ≤ m.length / 16 + m.length + 6 ∧
      Host.Core.run core n s = .next t ∧
      t.status = { s.status with busy := false, done := true } ∧ t.seq = .idle ∧
      t.digest = (xxHash32 (s.seed.setWidth 32) m).setWidth 64 ∧ t.acc = t.digest ∧
      t.off = s.len ∧ t.seed = s.seed ∧ t.len = s.len ∧ t.msg = s.msg ∧
      (m.length < 16 → t.lanes = s.lanes)

/-- The same for HASH.64, log 7 included. -/
def Obligations.Hash64ComputesXxHash64 : Prop :=
  ∀ (s : State) (m : List Byte), s.inputs = [] → s.status.busy = true → s.pend = 0x110 →
    s.seq = .idle → s.Message m → m.length ≤ s.msgSize →
    ∃ (n : Nat) (t : State), n ≤ m.length / 32 + m.length + 6 ∧
      Host.Core.run core n s = .next t ∧
      t.status = { s.status with busy := false, done := true } ∧ t.seq = .idle ∧
      t.digest = xxHash64 s.seed m ∧ t.acc = t.digest ∧
      t.off = s.len ∧ t.seed = s.seed ∧ t.len = s.len ∧ t.msg = s.msg ∧
      (m.length < 32 → t.lanes = s.lanes)

/-- Whatever the host does meanwhile, short of a reset, a running HASH completes with the reference
digest (20_memory.md section 5, 44_oneshot.md section 2, 70_reset_and_hazards.md section 3). That the
core moves once the events are used up, and how `wait` polls, are the model's choices (logs 7 and
17). -/
def Obligations.HashIsUndisturbedByTheHost : Prop :=
  ∀ (s : State) (m : List Byte), s.status.busy = true → s.pend = 0x010 ∨ s.pend = 0x110 →
    s.seq = .idle → s.Message m → m.length ≤ s.msgSize →
    (∀ e ∈ s.inputs, e.abandons = false) →
    ∃ (n : Nat) (t : State), Host.Core.run core n s = .next t ∧
      t.status.busy = false ∧ t.status.done = true ∧ t.status.fault = s.status.fault ∧
      t.off = s.len ∧
      (s.pend = 0x010 → t.digest = (xxHash32 (s.seed.setWidth 32) m).setWidth 64) ∧
      (s.pend = 0x110 → t.digest = xxHash64 s.seed m)

/-- The primitives issued in the order of HASH all complete, and end with the OFF, lanes, ACC and
DIGEST of HASH (44_oneshot.md section 2). That the HASH run needs no event is the model's choice (log
7). -/
def Obligations.PrimitiveSequenceEqualsHash : Prop :=
  ∀ (s : State) (m : List Byte), s.inputs = [] → s.status.busy = false →
    s.status.fault = false → s.seq = .idle → s.Message m → m.length ≤ s.msgSize →
    (∃ n t u, runCommands (primitives32 m.length) s = .next t ∧
      t.status.fault = false ∧ t.status.done = true ∧
      Host.Core.run core n (s.issue 0x010) = .next u ∧
      u.status.busy = false ∧ u.status.done = true ∧ t.datapath = u.datapath) ∧
    (∃ n t u, runCommands (primitives64 m.length) s = .next t ∧
      t.status.fault = false ∧ t.status.done = true ∧
      Host.Core.run core n (s.issue 0x110) = .next u ∧
      u.status.busy = false ∧ u.status.done = true ∧ t.datapath = u.datapath)

/-- The reference functions give the source's eight known answers (95_test_vectors.md K1 to K8). -/
def Obligations.ReferenceGivesKnownAnswers : Prop :=
  ∀ nobody fox : List Byte,
    nobody = [0x4E, 0x6F, 0x62, 0x6F, 0x64, 0x79, 0x20, 0x69, 0x6E, 0x73, 0x70, 0x65, 0x63, 0x74,
      0x73, 0x20, 0x74, 0x68, 0x65, 0x20, 0x73, 0x70, 0x61, 0x6D, 0x6D, 0x69, 0x73, 0x68, 0x20,
      0x72, 0x65, 0x70, 0x65, 0x74, 0x69, 0x74, 0x69, 0x6F, 0x6E] →
    fox = [0x54, 0x68, 0x65, 0x20, 0x71, 0x75, 0x69, 0x63, 0x6B, 0x20, 0x62, 0x72, 0x6F, 0x77,
      0x6E, 0x20, 0x66, 0x6F, 0x78, 0x20, 0x6A, 0x75, 0x6D, 0x70, 0x73, 0x20, 0x6F, 0x76, 0x65,
      0x72, 0x20, 0x74, 0x68, 0x65, 0x20, 0x6C, 0x61, 0x7A, 0x79, 0x20, 0x64, 0x6F, 0x67] →
    (xxHash32 0 nobody = 0xE2293B2F#32 ∧ xxHash32 69 nobody = 0xDA0E31CB#32 ∧
      xxHash32 0 fox = 0xE85EA4DE#32 ∧ xxHash32 69 fox = 0x4F8FA903#32) ∧
    (xxHash64 0 nobody = 0xFBCEA83C8A378BF1#64 ∧ xxHash64 69 nobody = 0xB7B1577FC25F21E6#64 ∧
      xxHash64 0 fox = 0x0B242D361FDA71BC#64 ∧ xxHash64 69 fox = 0x1673B09E13F8FFF8#64)

/-! ### Frames over all commands -/

/-- No command writes SEED, LEN, MSG, CMD, PEND, MSGSZ or HERR, nor what belongs to the host
(10_state.md section 2, 20_memory.md section 1). -/
def Obligations.CommandsNeverWriteTheHostsRegisters : Prop :=
  ∀ (i : Instr) (s t : State), exec i s = .next t →
    t.seed = s.seed ∧ t.len = s.len ∧ t.cmd = s.cmd ∧ t.pend = s.pend ∧ t.msgSize = s.msgSize ∧
    t.status.herr = s.status.herr ∧ t.inputs = s.inputs ∧ t.response = s.response ∧
    ∀ a, Memory.lookup t.msg a = Memory.lookup s.msg a

/-- Each datapath register is written only by the commands the spec names for it (10_state.md section
2). -/
def Obligations.RegistersWrittenOnlyByTheirCommands : Prop :=
  ∀ (i : Instr) (s t : State), isHash i = false → exec i s = .next t →
    (i ∉ [Instr.laneInit32, Instr.laneInit64, Instr.laneStripe32, Instr.laneStripe64] →
      t.lanes = s.lanes) ∧
    (i ∉ [Instr.laneConv32, Instr.laneConv64, Instr.accSeed32, Instr.accSeed64, Instr.accLen32,
        Instr.accLen64, Instr.tail8W64, Instr.tail4W32, Instr.tail4W64, Instr.tail1W32,
        Instr.tail1W64, Instr.accAval32, Instr.accAval64] → t.acc = s.acc) ∧
    (i ∉ [Instr.curReset, Instr.laneStripe32, Instr.laneStripe64, Instr.tail8W64, Instr.tail4W32,
        Instr.tail4W64, Instr.tail1W32, Instr.tail1W64] → t.off = s.off) ∧
    (i ∉ [Instr.accAval32, Instr.accAval64] → t.digest = s.digest)

/-- A fault of a primitive, or LEN_RANGE at the start of HASH, leaves LANE, ACC, OFF and DIGEST as they
were (60_exceptions.md section 2). -/
def Obligations.FaultsArePrecise : Prop :=
  ∀ (i : Instr) (s t : State), isHash i = false ∨ s.seq = .idle → exec i s = .next t →
    s.status.fault = false → t.status.fault = true →
    t.datapath = s.datapath ∧ t.status.busy = false ∧ t.status.done = false ∧ t.seq = .idle ∧
      t.fcmd = s.pend ∧
      ((t.status.fcause = 2 ∨ t.status.fcause = 3) ∧ t.foff = s.off ∧
          t.fneed ∈ ([1, 4, 8, 16, 32] : List Word) ∨
        t.status.fcause = 4 ∧ t.foff = 0 ∧ t.fneed = 0 ∨
        t.status.fcause = 5 ∧ t.foff = s.off ∧ t.fneed = s.remaining)

/-- Every datapath register a 32-bit command writes has bits 63:32 zero (10_state.md section 5). -/
def Obligations.NarrowResultsAreZeroExtended : Prop :=
  ∀ (i : Instr) (s t : State), i ∈ narrowCommands → exec i s = .next t →
    t.status.fault = false →
    (t.lanes = s.lanes ∨
      UpperZero t.lanes.l1 ∧ UpperZero t.lanes.l2 ∧ UpperZero t.lanes.l3 ∧ UpperZero t.lanes.l4) ∧
    (t.acc = s.acc ∨ UpperZero t.acc) ∧ (t.digest = s.digest ∨ UpperZero t.digest)

/-- No 32-bit command lets bits 63:32 of SEED, ACC or a lane reach anything else (10_state.md
sections 2 and 5). Both states have the same count of draws, so unwritten bytes are drawn alike
(log 2). -/
def Obligations.NarrowCommandsIgnoreUpperHalves : Prop :=
  ∀ (i : Instr) (s s' t t' : State), i ∈ narrowCommands → s.SameLow32 s' →
    exec i s = .next t → exec i s' = .next t' → t.SameLow32 t'

/-! ### The host's ports -/

/-- STATUS as the host reads it: the bit places of R27, written as one concatenation. -/
def Obligations.StatusWordLayout : Prop :=
  ∀ st : Status, st.word =
    0#52 ++ st.fcause ++ 0#4 ++ BitVec.ofBool st.herr ++ BitVec.ofBool st.fault ++
      BitVec.ofBool st.done ++ BitVec.ofBool st.busy

/-- 20_memory.md section 2, with the register map and the reserved slots of 10_state.md section 4. A
read of an unstable register while BUSY = 1 gives some value, of which nothing is said; that it counts
one draw is the model's choice (log 3). -/
def Obligations.RegReadFollowsTheMap : Prop :=
  ∀ (s : State) (off : Word),
    (off.toNat % 8 ≠ 0 ∨ 0x100 ≤ off.toNat →
      s.regRead off = (0, { s with status := { s.status with herr := true } })) ∧
    (s.status.busy = true → off ∈ ([0x30, 0x38, 0x40, 0x48, 0x50, 0x58, 0x60] : List Word) →
      ∃ v, s.regRead off = (v, { s with draws := s.draws + 1 })) ∧
    (∀ v, (off, v) ∈ ([(0x30, s.off), (0x38, s.acc), (0x40, s.lanes.l1), (0x48, s.lanes.l2),
        (0x50, s.lanes.l3), (0x58, s.lanes.l4), (0x60, s.digest)] : List (Word × Word)) →
      s.status.busy = false → s.regRead off = (v, s)) ∧
    (∀ v, (off, v) ∈ ([(0x00, 0x0000000143485858#64), (0x08, 0), (0x10, s.status.word),
        (0x18, s.cmd), (0x20, s.seed), (0x28, s.len), (0x68, s.fcmd), (0x70, s.foff),
        (0x78, s.fneed), (0x80, BitVec.ofNat 64 s.msgSize)] : List (Word × Word)) →
      s.regRead off = (v, s)) ∧
    (off.toNat % 8 = 0 → 0x88 ≤ off.toNat → off.toNat ≤ 0xF8 → s.regRead off = (0, s))

/-- 20_memory.md R63, 10_state.md R28 and 40_cursor.md R111. -/
def Obligations.RegWriteFollowsTheMap : Prop :=
  ∀ (s refused : State) (off v : Word),
    refused = { s with status := { s.status with herr := true } } →
    (off.toNat % 8 ≠ 0 ∨ 0x100 ≤ off.toNat → s.regWrite off v = refused) ∧
    (v.getLsbD 0 = true → s.regWrite 0x08 v = s.softReset) ∧
    (v.getLsbD 0 = false → s.regWrite 0x08 v = s) ∧
    (s.status.busy = true ∨ s.status.fault = true → s.regWrite 0x18 v = refused) ∧
    (s.status.busy = false → s.status.fault = false →
      s.regWrite 0x18 v =
        { s with
          cmd := v, pend := v, status := { s.status with busy := true, done := false } }) ∧
    (s.status.busy = true → s.regWrite 0x20 v = refused ∧ s.regWrite 0x28 v = refused) ∧
    (s.status.busy = false →
      s.regWrite 0x20 v = { s with seed := v } ∧
      s.regWrite 0x28 v = { s with len := v, off := 0 }) ∧
    (off.toNat % 8 = 0 → off.toNat < 0x100 →
      off ∉ ([0x08, 0x18, 0x20, 0x28] : List Word) → s.regWrite off v = s)

/-- 20_memory.md section 2: a write is refused or changes the one byte and its mark; a read is
refused, gives the written byte, or gives some value of which nothing is said. That a read counts one
draw is the model's choice (log 2). -/
def Obligations.MessagePortReadsWhatWasWritten : Prop :=
  ∀ (s : State) (a : Word) (b : Byte),
    (s.msgSize ≤ a.toNat ∨ s.status.busy = true →
      s.msgWrite a b = { s with status := { s.status with herr := true } }) ∧
    (a.toNat < s.msgSize → s.status.busy = false →
      ∃ msg, s.msgWrite a b = { s with msg := msg } ∧
        Memory.lookup msg a.toNat = some b ∧
        (∀ a', a' ≠ a.toNat → Memory.lookup msg a' = Memory.lookup s.msg a') ∧
        ((s.msgWrite a b).msgRead a).1 = b) ∧
    (s.msgSize ≤ a.toNat →
      s.msgRead a = (0, { s with status := { s.status with herr := true } })) ∧
    (a.toNat < s.msgSize → ∃ v, s.msgRead a = (v, { s with draws := s.draws + 1 }) ∧
      ∀ c, Memory.lookup s.msg a.toNat = some c → v = c)

/-- The message memory has one form for each contents: canonical memories with the same written bytes
are equal (log 1). -/
def Obligations.CanonicalMemoryIsUnique : Prop :=
  ∀ m m' : Memory, Memory.wf m = true → Memory.wf m' = true →
    (∀ a, Memory.lookup m a = Memory.lookup m' a) → m = m'

/-- 70_reset_and_hazards.md R250 and R251: hardware reset and soft reset, in every state. What is
said of `inputs`, `response` and `draws` is the model's (log 16). -/
def Obligations.ResetsClearEverythingButTheMessage : Prop :=
  ∀ (s cleared : State),
    cleared =
      { s with
        lanes := ⟨0, 0, 0, 0⟩, acc := 0, off := 0, seed := 0, len := 0, digest := 0
        status := { busy := false, done := false, fault := false, herr := false, fcause := 0 }
        cmd := 0, pend := 0, seq := .idle, fcmd := 0, foff := 0, fneed := 0, response := none } →
    (∀ rest, s.inputs = .hardReset :: rest →
      step s = .next { cleared with inputs := rest, msg := [] }) ∧
    (∀ rest v, s.inputs = .host (.regWrite 0x08 v) :: rest → v.getLsbD 0 = true →
      step s = .next { cleared with inputs := rest })

/-- The state hardware reset leaves (70_reset_and_hazards.md section 1): every register 0, every byte
unwritten, MSGSZ a legal size. -/
def Obligations.ResetStateValues : Prop :=
  ∀ s : State, s = State.reset →
    s.lanes = ⟨0, 0, 0, 0⟩ ∧ s.acc = 0 ∧ s.off = 0 ∧ s.seed = 0 ∧ s.len = 0 ∧ s.digest = 0 ∧
    s.status.word = 0 ∧ s.cmd = 0 ∧ s.pend = 0 ∧ s.seq = .idle ∧
    s.fcmd = 0 ∧ s.foff = 0 ∧ s.fneed = 0 ∧
    (∀ a, Memory.lookup s.msg a = none) ∧ 64 ≤ s.msgSize ∧ s.msgSize ≤ 2 ^ 63

/-! ### Whole-machine rules -/

/-- HERR is cleared only by reset (60_exceptions.md section 3). -/
def Obligations.HerrIsSticky : Prop :=
  ∀ s t : State, s.status.herr = true → s.NoResetNext → step s = .next t → t.status.herr = true

/-- While the block is halted nothing but a reset leaves the fault: no command runs, the record and the
datapath stand, and OFF changes only by a LEN write (60_exceptions.md section 3). -/
def Obligations.HaltedUntilReset : Prop :=
  ∀ s t : State, s.status.fault = true → s.status.busy = false → s.NoResetNext →
    step s = .next t →
    t.status.fault = true ∧ t.status.busy = false ∧ t.status.done = s.status.done ∧
    t.status.fcause = s.status.fcause ∧
    t.fcmd = s.fcmd ∧ t.foff = s.foff ∧ t.fneed = s.fneed ∧ t.cmd = s.cmd ∧ t.pend = s.pend ∧
    t.lanes = s.lanes ∧ t.acc = s.acc ∧ t.digest = s.digest ∧ t.seq = s.seq ∧
    (t.off = s.off ∨ t.off = 0 ∧ ∃ v rest, s.inputs = .host (.regWrite 0x28 v) :: rest)

/-- No host operation but a soft reset touches a running command: only HERR, what the host read and the
draws can change (20_memory.md section 5, 70_reset_and_hazards.md section 2). The response and the
draws are the model's own fields (logs 2, 3 and 8). -/
def Obligations.HostCannotTouchARunningCommand : Prop :=
  ∀ (s : State) (op : HostOp), s.status.busy = true → (Event.host op).abandons = false →
    ∃ (h : Bool) (r : Option Response) (d : Nat),
      s.hostAct op =
        { s with status := { s.status with herr := h }, response := r, draws := d } ∧
      (s.status.herr = true → h = true)

/-- A host read changes nothing but HERR, and that only for a refused access (20_memory.md section 4).
The response and the draws are the model's own fields (logs 2, 3 and 8). -/
def Obligations.HostReadsHaveNoSideEffect : Prop :=
  ∀ (s : State) (x : Word),
    (∃ (r : Response) (d : Nat), s.hostAct (.regRead x) =
      { s with
        status := { s.status with
          herr := s.status.herr || decide (x.toNat % 8 ≠ 0 ∨ 0x100 ≤ x.toNat) }
        response := some r, draws := d }) ∧
    (∃ (r : Response) (d : Nat), s.hostAct (.msgRead x) =
      { s with
        status := { s.status with herr := s.status.herr || decide (s.msgSize ≤ x.toNat) }
        response := some r, draws := d })

/-- The reset state meets the invariant. -/
def Obligations.ResetMeetsTheInvariant : Prop := State.reset.Inv

/-- Every step keeps the invariant: OFF ≤ LEN, BUSY and FAULT never both 1, SEQ idle unless a HASH that
fits is running, the fault record as R30 says, MSG canonical and inside MSG_SIZE. -/
def Obligations.EveryStepKeepsTheInvariant : Prop :=
  ∀ s t : State, s.Inv → step s = .next t → t.Inv

/-- A HASH past its start never faults, from any state that meets the invariant (44_oneshot.md section
2, 60_exceptions.md section 2). -/
def Obligations.HashNeverFaultsAfterItsStart : Prop :=
  ∀ (i : Instr) (s t : State), s.Inv → isHash i = true → s.seq ≠ .idle → exec i s = .next t →
    t.status.fault = false ∧ (t.status.busy = true ∨ t.status.done = true ∧ t.off = t.len)

/-- The host script's statements are the host operations 30_encoding.md section 3 gives them. The byte
of a character outside ASCII (log 19), the event that stands for `wait` (log 17), the wrap of an
address past 2^64 - 1 (log 20) and the LEN of a text of 2^64 or more characters (log 21) are the
model's choices. -/
def Obligations.ScriptExpandsToHostOperations : Prop :=
  (∀ (r : HostReg) (v : Word),
    (Stmt.wr r v).expand = [.host (.regWrite r.offset v)] ∧
    (Stmt.rd r).expand = [.host (.regRead r.offset)] ∧ slotAt r.offset = .reg r) ∧
  (∀ (a : Word) (b : Byte),
    (Stmt.wmsg a b).expand = [.host (.msgWrite a b)] ∧
    (Stmt.rmsg a).expand = [.host (.msgRead a)]) ∧
  (∀ (i : Instr) (w : Word),
    (Stmt.cmd i).expand = [.host (.regWrite 0x18 (encode i))] ∧
    (Stmt.cmdWord w).expand = [.host (.regWrite 0x18 w)] ∧
    (Stmt.run i).expand = (Stmt.cmd i).expand ++ Stmt.wait.expand) ∧
  (∀ (a : Word) (bytes : List Byte) (k : Nat) (h : k < bytes.length),
    ((Stmt.wbytes a bytes).expand)[k]? =
      some (.host (.msgWrite (a + BitVec.ofNat 64 k) bytes[k]))) ∧
  (∀ (a : Word) (bytes : List Byte), (Stmt.wbytes a bytes).expand.length = bytes.length) ∧
  (∀ (a : Word) (text : List Char),
    (Stmt.wstr a text).expand = (Stmt.wbytes a (text.map charByte)).expand) ∧
  (∀ c : Char, (charByte c).toNat = c.toNat % 256 ∧
    (c.toNat < 128 → (charByte c).toNat = c.toNat)) ∧
  Stmt.wait.expand = [.wait] ∧
  (∀ text : List Char, (Stmt.load text).expand =
    (Stmt.wstr 0 text).expand ++ (Stmt.wr .len (BitVec.ofNat 64 text.length)).expand) ∧
  Stmt.srst.expand = [.host (.regWrite 0x08 1)]

/-! ### Parameters, and what the host sees -/

/-- LANE_IMPL is not observable and never changes: the same step from the same state with the other
datapath gives the same next state with the other datapath (41_stripe.md section 3, 00_scope.md section
3). That it is a field of State is the model's choice (log 5). -/
def Obligations.LaneImplDoesNotChangeAnyStep : Prop :=
  ∀ (s t : State) (impl : LaneImpl), step s = .next t →
    t.laneImpl = s.laneImpl ∧
    step { s with laneImpl := impl } = .next { t with laneImpl := impl }

/-- A host event is the host operation it names, with what that returned as the response. The field
`response`, and that a write leaves none there, are the model's choice (log 8). -/
def Obligations.HostActIsTheOperation : Prop :=
  ∀ (s : State) (x v : Word) (b : Byte),
    s.hostAct (.regWrite x v) = { s.regWrite x v with response := none } ∧
    s.hostAct (.msgWrite x b) = { s.msgWrite x b with response := none } ∧
    s.hostAct (.regRead x) =
      { (s.regRead x).2 with response := some (.word (s.regRead x).1) } ∧
    s.hostAct (.msgRead x) =
      { (s.msgRead x).2 with response := some (.byte (s.msgRead x).1) }
end

