-- ==== Sys2Proof/Laws/Arith.lean ====
section
/-! SUPPORT. The rotation of 00_scope.md R11 is BitVec's rotateLeft, the constants as literals, and the
lane rounds whichever datapath computes them. -/

namespace Sys2Proof.Machine

/-- Either datapath gives each lane the round of its own old value and its own slot (41_stripe.md
R146). -/
theorem laneRounds_eq {α : Type} (impl : LaneImpl) (round : α → α → α) (l v : Lanes α) :
    laneRounds impl round l v = Lanes.zipWith round l v := by
  cases impl <;> rfl

theorem rotl32_eq_rotateLeft (x : Word32) (r : Nat) (h : r < 32) : rotl32 x r = x.rotateLeft r := by
  simp [rotl32, BitVec.rotateLeft_def, Nat.mod_eq_of_lt h]

theorem rotl64_eq_rotateLeft (x : Word) (r : Nat) (h : r < 64) : rotl64 x r = x.rotateLeft r := by
  simp [rotl64, BitVec.rotateLeft_def, Nat.mod_eq_of_lt h]

theorem round32_eq (a v : Word32) :
    round32 a v = (a + v * 0x85EBCA77#32).rotateLeft 13 * 0x9E3779B1#32 := by
  rw [round32, rotl32_eq_rotateLeft _ _ (by decide), P1_32, P2_32]

theorem round64_eq (a v : Word) :
    round64 a v = (a + v * 0xC2B2AE3D27D4EB4F#64).rotateLeft 31 * 0x9E3779B185EBCA87#64 := by
  rw [round64, rotl64_eq_rotateLeft _ _ (by decide), P1_64, P2_64]

/-- The round with accumulator 0, as the merge and the eight-byte fold use it (41_stripe.md R149). -/
theorem round64_zero (v : Word) :
    round64 0#64 v = (v * 0xC2B2AE3D27D4EB4F#64).rotateLeft 31 * 0x9E3779B185EBCA87#64 := by
  rw [round64_eq]
  rw [BitVec.zero_add]

end Sys2Proof.Machine
end

