-- ==== Sys2Proof/Laws/State.lean ====
section
/-! SUPPORT. One lemma per field per update of State, true by rfl, so that no later proof unfolds a
record update. -/

namespace Sys2Proof.Machine

/-! ### setLanes -/

@[simp] theorem State.setLanes_lanes (s : State) (v : Lanes Word) : (s.setLanes v).lanes = v := rfl
@[simp] theorem State.setLanes_acc (s : State) (v : Lanes Word) : (s.setLanes v).acc = s.acc := rfl
@[simp] theorem State.setLanes_off (s : State) (v : Lanes Word) : (s.setLanes v).off = s.off := rfl
@[simp] theorem State.setLanes_seed (s : State) (v : Lanes Word) :
    (s.setLanes v).seed = s.seed := rfl
@[simp] theorem State.setLanes_len (s : State) (v : Lanes Word) : (s.setLanes v).len = s.len := rfl
@[simp] theorem State.setLanes_digest (s : State) (v : Lanes Word) :
    (s.setLanes v).digest = s.digest := rfl
@[simp] theorem State.setLanes_status (s : State) (v : Lanes Word) :
    (s.setLanes v).status = s.status := rfl
@[simp] theorem State.setLanes_cmd (s : State) (v : Lanes Word) : (s.setLanes v).cmd = s.cmd := rfl
@[simp] theorem State.setLanes_pend (s : State) (v : Lanes Word) :
    (s.setLanes v).pend = s.pend := rfl
@[simp] theorem State.setLanes_seq (s : State) (v : Lanes Word) : (s.setLanes v).seq = s.seq := rfl
@[simp] theorem State.setLanes_fcmd (s : State) (v : Lanes Word) :
    (s.setLanes v).fcmd = s.fcmd := rfl
@[simp] theorem State.setLanes_foff (s : State) (v : Lanes Word) :
    (s.setLanes v).foff = s.foff := rfl
@[simp] theorem State.setLanes_fneed (s : State) (v : Lanes Word) :
    (s.setLanes v).fneed = s.fneed := rfl
@[simp] theorem State.setLanes_msgSize (s : State) (v : Lanes Word) :
    (s.setLanes v).msgSize = s.msgSize := rfl
@[simp] theorem State.setLanes_laneImpl (s : State) (v : Lanes Word) :
    (s.setLanes v).laneImpl = s.laneImpl := rfl
@[simp] theorem State.setLanes_msg (s : State) (v : Lanes Word) : (s.setLanes v).msg = s.msg := rfl
@[simp] theorem State.setLanes_inputs (s : State) (v : Lanes Word) :
    (s.setLanes v).inputs = s.inputs := rfl
@[simp] theorem State.setLanes_response (s : State) (v : Lanes Word) :
    (s.setLanes v).response = s.response := rfl
@[simp] theorem State.setLanes_draws (s : State) (v : Lanes Word) :
    (s.setLanes v).draws = s.draws := rfl

/-! ### setAcc -/

@[simp] theorem State.setAcc_lanes (s : State) (v : Word) : (s.setAcc v).lanes = s.lanes := rfl
@[simp] theorem State.setAcc_acc (s : State) (v : Word) : (s.setAcc v).acc = v := rfl
@[simp] theorem State.setAcc_off (s : State) (v : Word) : (s.setAcc v).off = s.off := rfl
@[simp] theorem State.setAcc_seed (s : State) (v : Word) : (s.setAcc v).seed = s.seed := rfl
@[simp] theorem State.setAcc_len (s : State) (v : Word) : (s.setAcc v).len = s.len := rfl
@[simp] theorem State.setAcc_digest (s : State) (v : Word) : (s.setAcc v).digest = s.digest := rfl
@[simp] theorem State.setAcc_status (s : State) (v : Word) : (s.setAcc v).status = s.status := rfl
@[simp] theorem State.setAcc_cmd (s : State) (v : Word) : (s.setAcc v).cmd = s.cmd := rfl
@[simp] theorem State.setAcc_pend (s : State) (v : Word) : (s.setAcc v).pend = s.pend := rfl
@[simp] theorem State.setAcc_seq (s : State) (v : Word) : (s.setAcc v).seq = s.seq := rfl
@[simp] theorem State.setAcc_fcmd (s : State) (v : Word) : (s.setAcc v).fcmd = s.fcmd := rfl
@[simp] theorem State.setAcc_foff (s : State) (v : Word) : (s.setAcc v).foff = s.foff := rfl
@[simp] theorem State.setAcc_fneed (s : State) (v : Word) : (s.setAcc v).fneed = s.fneed := rfl
@[simp] theorem State.setAcc_msgSize (s : State) (v : Word) :
    (s.setAcc v).msgSize = s.msgSize := rfl
@[simp] theorem State.setAcc_laneImpl (s : State) (v : Word) :
    (s.setAcc v).laneImpl = s.laneImpl := rfl
@[simp] theorem State.setAcc_msg (s : State) (v : Word) : (s.setAcc v).msg = s.msg := rfl
@[simp] theorem State.setAcc_inputs (s : State) (v : Word) : (s.setAcc v).inputs = s.inputs := rfl
@[simp] theorem State.setAcc_response (s : State) (v : Word) :
    (s.setAcc v).response = s.response := rfl
@[simp] theorem State.setAcc_draws (s : State) (v : Word) : (s.setAcc v).draws = s.draws := rfl

/-! ### setOff -/

@[simp] theorem State.setOff_lanes (s : State) (v : Word) : (s.setOff v).lanes = s.lanes := rfl
@[simp] theorem State.setOff_acc (s : State) (v : Word) : (s.setOff v).acc = s.acc := rfl
@[simp] theorem State.setOff_off (s : State) (v : Word) : (s.setOff v).off = v := rfl
@[simp] theorem State.setOff_seed (s : State) (v : Word) : (s.setOff v).seed = s.seed := rfl
@[simp] theorem State.setOff_len (s : State) (v : Word) : (s.setOff v).len = s.len := rfl
@[simp] theorem State.setOff_digest (s : State) (v : Word) : (s.setOff v).digest = s.digest := rfl
@[simp] theorem State.setOff_status (s : State) (v : Word) : (s.setOff v).status = s.status := rfl
@[simp] theorem State.setOff_cmd (s : State) (v : Word) : (s.setOff v).cmd = s.cmd := rfl
@[simp] theorem State.setOff_pend (s : State) (v : Word) : (s.setOff v).pend = s.pend := rfl
@[simp] theorem State.setOff_seq (s : State) (v : Word) : (s.setOff v).seq = s.seq := rfl
@[simp] theorem State.setOff_fcmd (s : State) (v : Word) : (s.setOff v).fcmd = s.fcmd := rfl
@[simp] theorem State.setOff_foff (s : State) (v : Word) : (s.setOff v).foff = s.foff := rfl
@[simp] theorem State.setOff_fneed (s : State) (v : Word) : (s.setOff v).fneed = s.fneed := rfl
@[simp] theorem State.setOff_msgSize (s : State) (v : Word) :
    (s.setOff v).msgSize = s.msgSize := rfl
@[simp] theorem State.setOff_laneImpl (s : State) (v : Word) :
    (s.setOff v).laneImpl = s.laneImpl := rfl
@[simp] theorem State.setOff_msg (s : State) (v : Word) : (s.setOff v).msg = s.msg := rfl
@[simp] theorem State.setOff_inputs (s : State) (v : Word) : (s.setOff v).inputs = s.inputs := rfl
@[simp] theorem State.setOff_response (s : State) (v : Word) :
    (s.setOff v).response = s.response := rfl
@[simp] theorem State.setOff_draws (s : State) (v : Word) : (s.setOff v).draws = s.draws := rfl

/-! ### setSeed -/

@[simp] theorem State.setSeed_lanes (s : State) (v : Word) : (s.setSeed v).lanes = s.lanes := rfl
@[simp] theorem State.setSeed_acc (s : State) (v : Word) : (s.setSeed v).acc = s.acc := rfl
@[simp] theorem State.setSeed_off (s : State) (v : Word) : (s.setSeed v).off = s.off := rfl
@[simp] theorem State.setSeed_seed (s : State) (v : Word) : (s.setSeed v).seed = v := rfl
@[simp] theorem State.setSeed_len (s : State) (v : Word) : (s.setSeed v).len = s.len := rfl
@[simp] theorem State.setSeed_digest (s : State) (v : Word) : (s.setSeed v).digest = s.digest := rfl
@[simp] theorem State.setSeed_status (s : State) (v : Word) : (s.setSeed v).status = s.status := rfl
@[simp] theorem State.setSeed_cmd (s : State) (v : Word) : (s.setSeed v).cmd = s.cmd := rfl
@[simp] theorem State.setSeed_pend (s : State) (v : Word) : (s.setSeed v).pend = s.pend := rfl
@[simp] theorem State.setSeed_seq (s : State) (v : Word) : (s.setSeed v).seq = s.seq := rfl
@[simp] theorem State.setSeed_fcmd (s : State) (v : Word) : (s.setSeed v).fcmd = s.fcmd := rfl
@[simp] theorem State.setSeed_foff (s : State) (v : Word) : (s.setSeed v).foff = s.foff := rfl
@[simp] theorem State.setSeed_fneed (s : State) (v : Word) : (s.setSeed v).fneed = s.fneed := rfl
@[simp] theorem State.setSeed_msgSize (s : State) (v : Word) :
    (s.setSeed v).msgSize = s.msgSize := rfl
@[simp] theorem State.setSeed_laneImpl (s : State) (v : Word) :
    (s.setSeed v).laneImpl = s.laneImpl := rfl
@[simp] theorem State.setSeed_msg (s : State) (v : Word) : (s.setSeed v).msg = s.msg := rfl
@[simp] theorem State.setSeed_inputs (s : State) (v : Word) : (s.setSeed v).inputs = s.inputs := rfl
@[simp] theorem State.setSeed_response (s : State) (v : Word) :
    (s.setSeed v).response = s.response := rfl
@[simp] theorem State.setSeed_draws (s : State) (v : Word) : (s.setSeed v).draws = s.draws := rfl

/-! ### setLen -/

@[simp] theorem State.setLen_lanes (s : State) (v : Word) : (s.setLen v).lanes = s.lanes := rfl
@[simp] theorem State.setLen_acc (s : State) (v : Word) : (s.setLen v).acc = s.acc := rfl
@[simp] theorem State.setLen_off (s : State) (v : Word) : (s.setLen v).off = s.off := rfl
@[simp] theorem State.setLen_seed (s : State) (v : Word) : (s.setLen v).seed = s.seed := rfl
@[simp] theorem State.setLen_len (s : State) (v : Word) : (s.setLen v).len = v := rfl
@[simp] theorem State.setLen_digest (s : State) (v : Word) : (s.setLen v).digest = s.digest := rfl
@[simp] theorem State.setLen_status (s : State) (v : Word) : (s.setLen v).status = s.status := rfl
@[simp] theorem State.setLen_cmd (s : State) (v : Word) : (s.setLen v).cmd = s.cmd := rfl
@[simp] theorem State.setLen_pend (s : State) (v : Word) : (s.setLen v).pend = s.pend := rfl
@[simp] theorem State.setLen_seq (s : State) (v : Word) : (s.setLen v).seq = s.seq := rfl
@[simp] theorem State.setLen_fcmd (s : State) (v : Word) : (s.setLen v).fcmd = s.fcmd := rfl
@[simp] theorem State.setLen_foff (s : State) (v : Word) : (s.setLen v).foff = s.foff := rfl
@[simp] theorem State.setLen_fneed (s : State) (v : Word) : (s.setLen v).fneed = s.fneed := rfl
@[simp] theorem State.setLen_msgSize (s : State) (v : Word) :
    (s.setLen v).msgSize = s.msgSize := rfl
@[simp] theorem State.setLen_laneImpl (s : State) (v : Word) :
    (s.setLen v).laneImpl = s.laneImpl := rfl
@[simp] theorem State.setLen_msg (s : State) (v : Word) : (s.setLen v).msg = s.msg := rfl
@[simp] theorem State.setLen_inputs (s : State) (v : Word) : (s.setLen v).inputs = s.inputs := rfl
@[simp] theorem State.setLen_response (s : State) (v : Word) :
    (s.setLen v).response = s.response := rfl
@[simp] theorem State.setLen_draws (s : State) (v : Word) : (s.setLen v).draws = s.draws := rfl

/-! ### setDigest -/

@[simp] theorem State.setDigest_lanes (s : State) (v : Word) :
    (s.setDigest v).lanes = s.lanes := rfl
@[simp] theorem State.setDigest_acc (s : State) (v : Word) : (s.setDigest v).acc = s.acc := rfl
@[simp] theorem State.setDigest_off (s : State) (v : Word) : (s.setDigest v).off = s.off := rfl
@[simp] theorem State.setDigest_seed (s : State) (v : Word) : (s.setDigest v).seed = s.seed := rfl
@[simp] theorem State.setDigest_len (s : State) (v : Word) : (s.setDigest v).len = s.len := rfl
@[simp] theorem State.setDigest_digest (s : State) (v : Word) : (s.setDigest v).digest = v := rfl
@[simp] theorem State.setDigest_status (s : State) (v : Word) :
    (s.setDigest v).status = s.status := rfl
@[simp] theorem State.setDigest_cmd (s : State) (v : Word) : (s.setDigest v).cmd = s.cmd := rfl
@[simp] theorem State.setDigest_pend (s : State) (v : Word) : (s.setDigest v).pend = s.pend := rfl
@[simp] theorem State.setDigest_seq (s : State) (v : Word) : (s.setDigest v).seq = s.seq := rfl
@[simp] theorem State.setDigest_fcmd (s : State) (v : Word) : (s.setDigest v).fcmd = s.fcmd := rfl
@[simp] theorem State.setDigest_foff (s : State) (v : Word) : (s.setDigest v).foff = s.foff := rfl
@[simp] theorem State.setDigest_fneed (s : State) (v : Word) :
    (s.setDigest v).fneed = s.fneed := rfl
@[simp] theorem State.setDigest_msgSize (s : State) (v : Word) :
    (s.setDigest v).msgSize = s.msgSize := rfl
@[simp] theorem State.setDigest_laneImpl (s : State) (v : Word) :
    (s.setDigest v).laneImpl = s.laneImpl := rfl
@[simp] theorem State.setDigest_msg (s : State) (v : Word) : (s.setDigest v).msg = s.msg := rfl
@[simp] theorem State.setDigest_inputs (s : State) (v : Word) :
    (s.setDigest v).inputs = s.inputs := rfl
@[simp] theorem State.setDigest_response (s : State) (v : Word) :
    (s.setDigest v).response = s.response := rfl
@[simp] theorem State.setDigest_draws (s : State) (v : Word) :
    (s.setDigest v).draws = s.draws := rfl

/-! ### setStatus -/

@[simp] theorem State.setStatus_lanes (s : State) (v : Status) :
    (s.setStatus v).lanes = s.lanes := rfl
@[simp] theorem State.setStatus_acc (s : State) (v : Status) : (s.setStatus v).acc = s.acc := rfl
@[simp] theorem State.setStatus_off (s : State) (v : Status) : (s.setStatus v).off = s.off := rfl
@[simp] theorem State.setStatus_seed (s : State) (v : Status) : (s.setStatus v).seed = s.seed := rfl
@[simp] theorem State.setStatus_len (s : State) (v : Status) : (s.setStatus v).len = s.len := rfl
@[simp] theorem State.setStatus_digest (s : State) (v : Status) :
    (s.setStatus v).digest = s.digest := rfl
@[simp] theorem State.setStatus_status (s : State) (v : Status) : (s.setStatus v).status = v := rfl
@[simp] theorem State.setStatus_cmd (s : State) (v : Status) : (s.setStatus v).cmd = s.cmd := rfl
@[simp] theorem State.setStatus_pend (s : State) (v : Status) : (s.setStatus v).pend = s.pend := rfl
@[simp] theorem State.setStatus_seq (s : State) (v : Status) : (s.setStatus v).seq = s.seq := rfl
@[simp] theorem State.setStatus_fcmd (s : State) (v : Status) : (s.setStatus v).fcmd = s.fcmd := rfl
@[simp] theorem State.setStatus_foff (s : State) (v : Status) : (s.setStatus v).foff = s.foff := rfl
@[simp] theorem State.setStatus_fneed (s : State) (v : Status) :
    (s.setStatus v).fneed = s.fneed := rfl
@[simp] theorem State.setStatus_msgSize (s : State) (v : Status) :
    (s.setStatus v).msgSize = s.msgSize := rfl
@[simp] theorem State.setStatus_laneImpl (s : State) (v : Status) :
    (s.setStatus v).laneImpl = s.laneImpl := rfl
@[simp] theorem State.setStatus_msg (s : State) (v : Status) : (s.setStatus v).msg = s.msg := rfl
@[simp] theorem State.setStatus_inputs (s : State) (v : Status) :
    (s.setStatus v).inputs = s.inputs := rfl
@[simp] theorem State.setStatus_response (s : State) (v : Status) :
    (s.setStatus v).response = s.response := rfl
@[simp] theorem State.setStatus_draws (s : State) (v : Status) :
    (s.setStatus v).draws = s.draws := rfl

/-! ### setCmd -/

@[simp] theorem State.setCmd_lanes (s : State) (v : Word) : (s.setCmd v).lanes = s.lanes := rfl
@[simp] theorem State.setCmd_acc (s : State) (v : Word) : (s.setCmd v).acc = s.acc := rfl
@[simp] theorem State.setCmd_off (s : State) (v : Word) : (s.setCmd v).off = s.off := rfl
@[simp] theorem State.setCmd_seed (s : State) (v : Word) : (s.setCmd v).seed = s.seed := rfl
@[simp] theorem State.setCmd_len (s : State) (v : Word) : (s.setCmd v).len = s.len := rfl
@[simp] theorem State.setCmd_digest (s : State) (v : Word) : (s.setCmd v).digest = s.digest := rfl
@[simp] theorem State.setCmd_status (s : State) (v : Word) : (s.setCmd v).status = s.status := rfl
@[simp] theorem State.setCmd_cmd (s : State) (v : Word) : (s.setCmd v).cmd = v := rfl
@[simp] theorem State.setCmd_pend (s : State) (v : Word) : (s.setCmd v).pend = s.pend := rfl
@[simp] theorem State.setCmd_seq (s : State) (v : Word) : (s.setCmd v).seq = s.seq := rfl
@[simp] theorem State.setCmd_fcmd (s : State) (v : Word) : (s.setCmd v).fcmd = s.fcmd := rfl
@[simp] theorem State.setCmd_foff (s : State) (v : Word) : (s.setCmd v).foff = s.foff := rfl
@[simp] theorem State.setCmd_fneed (s : State) (v : Word) : (s.setCmd v).fneed = s.fneed := rfl
@[simp] theorem State.setCmd_msgSize (s : State) (v : Word) :
    (s.setCmd v).msgSize = s.msgSize := rfl
@[simp] theorem State.setCmd_laneImpl (s : State) (v : Word) :
    (s.setCmd v).laneImpl = s.laneImpl := rfl
@[simp] theorem State.setCmd_msg (s : State) (v : Word) : (s.setCmd v).msg = s.msg := rfl
@[simp] theorem State.setCmd_inputs (s : State) (v : Word) : (s.setCmd v).inputs = s.inputs := rfl
@[simp] theorem State.setCmd_response (s : State) (v : Word) :
    (s.setCmd v).response = s.response := rfl
@[simp] theorem State.setCmd_draws (s : State) (v : Word) : (s.setCmd v).draws = s.draws := rfl

/-! ### setPend -/

@[simp] theorem State.setPend_lanes (s : State) (v : Word) : (s.setPend v).lanes = s.lanes := rfl
@[simp] theorem State.setPend_acc (s : State) (v : Word) : (s.setPend v).acc = s.acc := rfl
@[simp] theorem State.setPend_off (s : State) (v : Word) : (s.setPend v).off = s.off := rfl
@[simp] theorem State.setPend_seed (s : State) (v : Word) : (s.setPend v).seed = s.seed := rfl
@[simp] theorem State.setPend_len (s : State) (v : Word) : (s.setPend v).len = s.len := rfl
@[simp] theorem State.setPend_digest (s : State) (v : Word) : (s.setPend v).digest = s.digest := rfl
@[simp] theorem State.setPend_status (s : State) (v : Word) : (s.setPend v).status = s.status := rfl
@[simp] theorem State.setPend_cmd (s : State) (v : Word) : (s.setPend v).cmd = s.cmd := rfl
@[simp] theorem State.setPend_pend (s : State) (v : Word) : (s.setPend v).pend = v := rfl
@[simp] theorem State.setPend_seq (s : State) (v : Word) : (s.setPend v).seq = s.seq := rfl
@[simp] theorem State.setPend_fcmd (s : State) (v : Word) : (s.setPend v).fcmd = s.fcmd := rfl
@[simp] theorem State.setPend_foff (s : State) (v : Word) : (s.setPend v).foff = s.foff := rfl
@[simp] theorem State.setPend_fneed (s : State) (v : Word) : (s.setPend v).fneed = s.fneed := rfl
@[simp] theorem State.setPend_msgSize (s : State) (v : Word) :
    (s.setPend v).msgSize = s.msgSize := rfl
@[simp] theorem State.setPend_laneImpl (s : State) (v : Word) :
    (s.setPend v).laneImpl = s.laneImpl := rfl
@[simp] theorem State.setPend_msg (s : State) (v : Word) : (s.setPend v).msg = s.msg := rfl
@[simp] theorem State.setPend_inputs (s : State) (v : Word) : (s.setPend v).inputs = s.inputs := rfl
@[simp] theorem State.setPend_response (s : State) (v : Word) :
    (s.setPend v).response = s.response := rfl
@[simp] theorem State.setPend_draws (s : State) (v : Word) : (s.setPend v).draws = s.draws := rfl

/-! ### setSeq -/

@[simp] theorem State.setSeq_lanes (s : State) (v : SeqPhase) : (s.setSeq v).lanes = s.lanes := rfl
@[simp] theorem State.setSeq_acc (s : State) (v : SeqPhase) : (s.setSeq v).acc = s.acc := rfl
@[simp] theorem State.setSeq_off (s : State) (v : SeqPhase) : (s.setSeq v).off = s.off := rfl
@[simp] theorem State.setSeq_seed (s : State) (v : SeqPhase) : (s.setSeq v).seed = s.seed := rfl
@[simp] theorem State.setSeq_len (s : State) (v : SeqPhase) : (s.setSeq v).len = s.len := rfl
@[simp] theorem State.setSeq_digest (s : State) (v : SeqPhase) :
    (s.setSeq v).digest = s.digest := rfl
@[simp] theorem State.setSeq_status (s : State) (v : SeqPhase) :
    (s.setSeq v).status = s.status := rfl
@[simp] theorem State.setSeq_cmd (s : State) (v : SeqPhase) : (s.setSeq v).cmd = s.cmd := rfl
@[simp] theorem State.setSeq_pend (s : State) (v : SeqPhase) : (s.setSeq v).pend = s.pend := rfl
@[simp] theorem State.setSeq_seq (s : State) (v : SeqPhase) : (s.setSeq v).seq = v := rfl
@[simp] theorem State.setSeq_fcmd (s : State) (v : SeqPhase) : (s.setSeq v).fcmd = s.fcmd := rfl
@[simp] theorem State.setSeq_foff (s : State) (v : SeqPhase) : (s.setSeq v).foff = s.foff := rfl
@[simp] theorem State.setSeq_fneed (s : State) (v : SeqPhase) : (s.setSeq v).fneed = s.fneed := rfl
@[simp] theorem State.setSeq_msgSize (s : State) (v : SeqPhase) :
    (s.setSeq v).msgSize = s.msgSize := rfl
@[simp] theorem State.setSeq_laneImpl (s : State) (v : SeqPhase) :
    (s.setSeq v).laneImpl = s.laneImpl := rfl
@[simp] theorem State.setSeq_msg (s : State) (v : SeqPhase) : (s.setSeq v).msg = s.msg := rfl
@[simp] theorem State.setSeq_inputs (s : State) (v : SeqPhase) :
    (s.setSeq v).inputs = s.inputs := rfl
@[simp] theorem State.setSeq_response (s : State) (v : SeqPhase) :
    (s.setSeq v).response = s.response := rfl
@[simp] theorem State.setSeq_draws (s : State) (v : SeqPhase) : (s.setSeq v).draws = s.draws := rfl

/-! ### setMsg -/

@[simp] theorem State.setMsg_lanes (s : State) (v : Memory) : (s.setMsg v).lanes = s.lanes := rfl
@[simp] theorem State.setMsg_acc (s : State) (v : Memory) : (s.setMsg v).acc = s.acc := rfl
@[simp] theorem State.setMsg_off (s : State) (v : Memory) : (s.setMsg v).off = s.off := rfl
@[simp] theorem State.setMsg_seed (s : State) (v : Memory) : (s.setMsg v).seed = s.seed := rfl
@[simp] theorem State.setMsg_len (s : State) (v : Memory) : (s.setMsg v).len = s.len := rfl
@[simp] theorem State.setMsg_digest (s : State) (v : Memory) : (s.setMsg v).digest = s.digest := rfl
@[simp] theorem State.setMsg_status (s : State) (v : Memory) : (s.setMsg v).status = s.status := rfl
@[simp] theorem State.setMsg_cmd (s : State) (v : Memory) : (s.setMsg v).cmd = s.cmd := rfl
@[simp] theorem State.setMsg_pend (s : State) (v : Memory) : (s.setMsg v).pend = s.pend := rfl
@[simp] theorem State.setMsg_seq (s : State) (v : Memory) : (s.setMsg v).seq = s.seq := rfl
@[simp] theorem State.setMsg_fcmd (s : State) (v : Memory) : (s.setMsg v).fcmd = s.fcmd := rfl
@[simp] theorem State.setMsg_foff (s : State) (v : Memory) : (s.setMsg v).foff = s.foff := rfl
@[simp] theorem State.setMsg_fneed (s : State) (v : Memory) : (s.setMsg v).fneed = s.fneed := rfl
@[simp] theorem State.setMsg_msgSize (s : State) (v : Memory) :
    (s.setMsg v).msgSize = s.msgSize := rfl
@[simp] theorem State.setMsg_laneImpl (s : State) (v : Memory) :
    (s.setMsg v).laneImpl = s.laneImpl := rfl
@[simp] theorem State.setMsg_msg (s : State) (v : Memory) : (s.setMsg v).msg = v := rfl
@[simp] theorem State.setMsg_inputs (s : State) (v : Memory) : (s.setMsg v).inputs = s.inputs := rfl
@[simp] theorem State.setMsg_response (s : State) (v : Memory) :
    (s.setMsg v).response = s.response := rfl
@[simp] theorem State.setMsg_draws (s : State) (v : Memory) : (s.setMsg v).draws = s.draws := rfl

/-! ### setInputs -/

@[simp] theorem State.setInputs_lanes (s : State) (v : List Event) :
    (s.setInputs v).lanes = s.lanes := rfl
@[simp] theorem State.setInputs_acc (s : State) (v : List Event) :
    (s.setInputs v).acc = s.acc := rfl
@[simp] theorem State.setInputs_off (s : State) (v : List Event) :
    (s.setInputs v).off = s.off := rfl
@[simp] theorem State.setInputs_seed (s : State) (v : List Event) :
    (s.setInputs v).seed = s.seed := rfl
@[simp] theorem State.setInputs_len (s : State) (v : List Event) :
    (s.setInputs v).len = s.len := rfl
@[simp] theorem State.setInputs_digest (s : State) (v : List Event) :
    (s.setInputs v).digest = s.digest := rfl
@[simp] theorem State.setInputs_status (s : State) (v : List Event) :
    (s.setInputs v).status = s.status := rfl
@[simp] theorem State.setInputs_cmd (s : State) (v : List Event) :
    (s.setInputs v).cmd = s.cmd := rfl
@[simp] theorem State.setInputs_pend (s : State) (v : List Event) :
    (s.setInputs v).pend = s.pend := rfl
@[simp] theorem State.setInputs_seq (s : State) (v : List Event) :
    (s.setInputs v).seq = s.seq := rfl
@[simp] theorem State.setInputs_fcmd (s : State) (v : List Event) :
    (s.setInputs v).fcmd = s.fcmd := rfl
@[simp] theorem State.setInputs_foff (s : State) (v : List Event) :
    (s.setInputs v).foff = s.foff := rfl
@[simp] theorem State.setInputs_fneed (s : State) (v : List Event) :
    (s.setInputs v).fneed = s.fneed := rfl
@[simp] theorem State.setInputs_msgSize (s : State) (v : List Event) :
    (s.setInputs v).msgSize = s.msgSize := rfl
@[simp] theorem State.setInputs_laneImpl (s : State) (v : List Event) :
    (s.setInputs v).laneImpl = s.laneImpl := rfl
@[simp] theorem State.setInputs_msg (s : State) (v : List Event) :
    (s.setInputs v).msg = s.msg := rfl
@[simp] theorem State.setInputs_inputs (s : State) (v : List Event) :
    (s.setInputs v).inputs = v := rfl
@[simp] theorem State.setInputs_response (s : State) (v : List Event) :
    (s.setInputs v).response = s.response := rfl
@[simp] theorem State.setInputs_draws (s : State) (v : List Event) :
    (s.setInputs v).draws = s.draws := rfl

/-! ### setResponse -/

@[simp] theorem State.setResponse_lanes (s : State) (v : Option Response) :
    (s.setResponse v).lanes = s.lanes := rfl
@[simp] theorem State.setResponse_acc (s : State) (v : Option Response) :
    (s.setResponse v).acc = s.acc := rfl
@[simp] theorem State.setResponse_off (s : State) (v : Option Response) :
    (s.setResponse v).off = s.off := rfl
@[simp] theorem State.setResponse_seed (s : State) (v : Option Response) :
    (s.setResponse v).seed = s.seed := rfl
@[simp] theorem State.setResponse_len (s : State) (v : Option Response) :
    (s.setResponse v).len = s.len := rfl
@[simp] theorem State.setResponse_digest (s : State) (v : Option Response) :
    (s.setResponse v).digest = s.digest := rfl
@[simp] theorem State.setResponse_status (s : State) (v : Option Response) :
    (s.setResponse v).status = s.status := rfl
@[simp] theorem State.setResponse_cmd (s : State) (v : Option Response) :
    (s.setResponse v).cmd = s.cmd := rfl
@[simp] theorem State.setResponse_pend (s : State) (v : Option Response) :
    (s.setResponse v).pend = s.pend := rfl
@[simp] theorem State.setResponse_seq (s : State) (v : Option Response) :
    (s.setResponse v).seq = s.seq := rfl
@[simp] theorem State.setResponse_fcmd (s : State) (v : Option Response) :
    (s.setResponse v).fcmd = s.fcmd := rfl
@[simp] theorem State.setResponse_foff (s : State) (v : Option Response) :
    (s.setResponse v).foff = s.foff := rfl
@[simp] theorem State.setResponse_fneed (s : State) (v : Option Response) :
    (s.setResponse v).fneed = s.fneed := rfl
@[simp] theorem State.setResponse_msgSize (s : State) (v : Option Response) :
    (s.setResponse v).msgSize = s.msgSize := rfl
@[simp] theorem State.setResponse_laneImpl (s : State) (v : Option Response) :
    (s.setResponse v).laneImpl = s.laneImpl := rfl
@[simp] theorem State.setResponse_msg (s : State) (v : Option Response) :
    (s.setResponse v).msg = s.msg := rfl
@[simp] theorem State.setResponse_inputs (s : State) (v : Option Response) :
    (s.setResponse v).inputs = s.inputs := rfl
@[simp] theorem State.setResponse_response (s : State) (v : Option Response) :
    (s.setResponse v).response = v := rfl
@[simp] theorem State.setResponse_draws (s : State) (v : Option Response) :
    (s.setResponse v).draws = s.draws := rfl

/-! ### setDraws -/

@[simp] theorem State.setDraws_lanes (s : State) (v : Nat) : (s.setDraws v).lanes = s.lanes := rfl
@[simp] theorem State.setDraws_acc (s : State) (v : Nat) : (s.setDraws v).acc = s.acc := rfl
@[simp] theorem State.setDraws_off (s : State) (v : Nat) : (s.setDraws v).off = s.off := rfl
@[simp] theorem State.setDraws_seed (s : State) (v : Nat) : (s.setDraws v).seed = s.seed := rfl
@[simp] theorem State.setDraws_len (s : State) (v : Nat) : (s.setDraws v).len = s.len := rfl
@[simp] theorem State.setDraws_digest (s : State) (v : Nat) :
    (s.setDraws v).digest = s.digest := rfl
@[simp] theorem State.setDraws_status (s : State) (v : Nat) :
    (s.setDraws v).status = s.status := rfl
@[simp] theorem State.setDraws_cmd (s : State) (v : Nat) : (s.setDraws v).cmd = s.cmd := rfl
@[simp] theorem State.setDraws_pend (s : State) (v : Nat) : (s.setDraws v).pend = s.pend := rfl
@[simp] theorem State.setDraws_seq (s : State) (v : Nat) : (s.setDraws v).seq = s.seq := rfl
@[simp] theorem State.setDraws_fcmd (s : State) (v : Nat) : (s.setDraws v).fcmd = s.fcmd := rfl
@[simp] theorem State.setDraws_foff (s : State) (v : Nat) : (s.setDraws v).foff = s.foff := rfl
@[simp] theorem State.setDraws_fneed (s : State) (v : Nat) : (s.setDraws v).fneed = s.fneed := rfl
@[simp] theorem State.setDraws_msgSize (s : State) (v : Nat) :
    (s.setDraws v).msgSize = s.msgSize := rfl
@[simp] theorem State.setDraws_laneImpl (s : State) (v : Nat) :
    (s.setDraws v).laneImpl = s.laneImpl := rfl
@[simp] theorem State.setDraws_msg (s : State) (v : Nat) : (s.setDraws v).msg = s.msg := rfl
@[simp] theorem State.setDraws_inputs (s : State) (v : Nat) :
    (s.setDraws v).inputs = s.inputs := rfl
@[simp] theorem State.setDraws_response (s : State) (v : Nat) :
    (s.setDraws v).response = s.response := rfl
@[simp] theorem State.setDraws_draws (s : State) (v : Nat) : (s.setDraws v).draws = v := rfl

/-! ### setRecord -/

@[simp] theorem State.setRecord_lanes (s : State) (c o n : Word) :
    (s.setRecord c o n).lanes = s.lanes := rfl
@[simp] theorem State.setRecord_acc (s : State) (c o n : Word) :
    (s.setRecord c o n).acc = s.acc := rfl
@[simp] theorem State.setRecord_off (s : State) (c o n : Word) :
    (s.setRecord c o n).off = s.off := rfl
@[simp] theorem State.setRecord_seed (s : State) (c o n : Word) :
    (s.setRecord c o n).seed = s.seed := rfl
@[simp] theorem State.setRecord_len (s : State) (c o n : Word) :
    (s.setRecord c o n).len = s.len := rfl
@[simp] theorem State.setRecord_digest (s : State) (c o n : Word) :
    (s.setRecord c o n).digest = s.digest := rfl
@[simp] theorem State.setRecord_status (s : State) (c o n : Word) :
    (s.setRecord c o n).status = s.status := rfl
@[simp] theorem State.setRecord_cmd (s : State) (c o n : Word) :
    (s.setRecord c o n).cmd = s.cmd := rfl
@[simp] theorem State.setRecord_pend (s : State) (c o n : Word) :
    (s.setRecord c o n).pend = s.pend := rfl
@[simp] theorem State.setRecord_seq (s : State) (c o n : Word) :
    (s.setRecord c o n).seq = s.seq := rfl
@[simp] theorem State.setRecord_fcmd (s : State) (c o n : Word) :
    (s.setRecord c o n).fcmd = c := rfl
@[simp] theorem State.setRecord_foff (s : State) (c o n : Word) :
    (s.setRecord c o n).foff = o := rfl
@[simp] theorem State.setRecord_fneed (s : State) (c o n : Word) :
    (s.setRecord c o n).fneed = n := rfl
@[simp] theorem State.setRecord_msgSize (s : State) (c o n : Word) :
    (s.setRecord c o n).msgSize = s.msgSize := rfl
@[simp] theorem State.setRecord_laneImpl (s : State) (c o n : Word) :
    (s.setRecord c o n).laneImpl = s.laneImpl := rfl
@[simp] theorem State.setRecord_msg (s : State) (c o n : Word) :
    (s.setRecord c o n).msg = s.msg := rfl
@[simp] theorem State.setRecord_inputs (s : State) (c o n : Word) :
    (s.setRecord c o n).inputs = s.inputs := rfl
@[simp] theorem State.setRecord_response (s : State) (c o n : Word) :
    (s.setRecord c o n).response = s.response := rfl
@[simp] theorem State.setRecord_draws (s : State) (c o n : Word) :
    (s.setRecord c o n).draws = s.draws := rfl

/-! ### issue -/

@[simp] theorem State.issue_lanes (s : State) (v : Word) : (s.issue v).lanes = s.lanes := rfl
@[simp] theorem State.issue_acc (s : State) (v : Word) : (s.issue v).acc = s.acc := rfl
@[simp] theorem State.issue_off (s : State) (v : Word) : (s.issue v).off = s.off := rfl
@[simp] theorem State.issue_seed (s : State) (v : Word) : (s.issue v).seed = s.seed := rfl
@[simp] theorem State.issue_len (s : State) (v : Word) : (s.issue v).len = s.len := rfl
@[simp] theorem State.issue_digest (s : State) (v : Word) : (s.issue v).digest = s.digest := rfl
@[simp] theorem State.issue_status (s : State) (v : Word) :
    (s.issue v).status = s.status.issued := rfl
@[simp] theorem State.issue_cmd (s : State) (v : Word) : (s.issue v).cmd = v := rfl
@[simp] theorem State.issue_pend (s : State) (v : Word) : (s.issue v).pend = v := rfl
@[simp] theorem State.issue_seq (s : State) (v : Word) : (s.issue v).seq = s.seq := rfl
@[simp] theorem State.issue_fcmd (s : State) (v : Word) : (s.issue v).fcmd = s.fcmd := rfl
@[simp] theorem State.issue_foff (s : State) (v : Word) : (s.issue v).foff = s.foff := rfl
@[simp] theorem State.issue_fneed (s : State) (v : Word) : (s.issue v).fneed = s.fneed := rfl
@[simp] theorem State.issue_msgSize (s : State) (v : Word) : (s.issue v).msgSize = s.msgSize := rfl
@[simp] theorem State.issue_laneImpl (s : State) (v : Word) :
    (s.issue v).laneImpl = s.laneImpl := rfl
@[simp] theorem State.issue_msg (s : State) (v : Word) : (s.issue v).msg = s.msg := rfl
@[simp] theorem State.issue_inputs (s : State) (v : Word) : (s.issue v).inputs = s.inputs := rfl
@[simp] theorem State.issue_response (s : State) (v : Word) :
    (s.issue v).response = s.response := rfl
@[simp] theorem State.issue_draws (s : State) (v : Word) : (s.issue v).draws = s.draws := rfl

/-! ### complete -/

@[simp] theorem State.complete_lanes (s : State) : (s.complete).lanes = s.lanes := rfl
@[simp] theorem State.complete_acc (s : State) : (s.complete).acc = s.acc := rfl
@[simp] theorem State.complete_off (s : State) : (s.complete).off = s.off := rfl
@[simp] theorem State.complete_seed (s : State) : (s.complete).seed = s.seed := rfl
@[simp] theorem State.complete_len (s : State) : (s.complete).len = s.len := rfl
@[simp] theorem State.complete_digest (s : State) : (s.complete).digest = s.digest := rfl
@[simp] theorem State.complete_status (s : State) : (s.complete).status = s.status.completed := rfl
@[simp] theorem State.complete_cmd (s : State) : (s.complete).cmd = s.cmd := rfl
@[simp] theorem State.complete_pend (s : State) : (s.complete).pend = s.pend := rfl
@[simp] theorem State.complete_seq (s : State) : (s.complete).seq = .idle := rfl
@[simp] theorem State.complete_fcmd (s : State) : (s.complete).fcmd = s.fcmd := rfl
@[simp] theorem State.complete_foff (s : State) : (s.complete).foff = s.foff := rfl
@[simp] theorem State.complete_fneed (s : State) : (s.complete).fneed = s.fneed := rfl
@[simp] theorem State.complete_msgSize (s : State) : (s.complete).msgSize = s.msgSize := rfl
@[simp] theorem State.complete_laneImpl (s : State) : (s.complete).laneImpl = s.laneImpl := rfl
@[simp] theorem State.complete_msg (s : State) : (s.complete).msg = s.msg := rfl
@[simp] theorem State.complete_inputs (s : State) : (s.complete).inputs = s.inputs := rfl
@[simp] theorem State.complete_response (s : State) : (s.complete).response = s.response := rfl
@[simp] theorem State.complete_draws (s : State) : (s.complete).draws = s.draws := rfl

/-! ### refuse -/

@[simp] theorem State.refuse_lanes (s : State) : (s.refuse).lanes = s.lanes := rfl
@[simp] theorem State.refuse_acc (s : State) : (s.refuse).acc = s.acc := rfl
@[simp] theorem State.refuse_off (s : State) : (s.refuse).off = s.off := rfl
@[simp] theorem State.refuse_seed (s : State) : (s.refuse).seed = s.seed := rfl
@[simp] theorem State.refuse_len (s : State) : (s.refuse).len = s.len := rfl
@[simp] theorem State.refuse_digest (s : State) : (s.refuse).digest = s.digest := rfl
@[simp] theorem State.refuse_status (s : State) : (s.refuse).status = s.status.refused := rfl
@[simp] theorem State.refuse_cmd (s : State) : (s.refuse).cmd = s.cmd := rfl
@[simp] theorem State.refuse_pend (s : State) : (s.refuse).pend = s.pend := rfl
@[simp] theorem State.refuse_seq (s : State) : (s.refuse).seq = s.seq := rfl
@[simp] theorem State.refuse_fcmd (s : State) : (s.refuse).fcmd = s.fcmd := rfl
@[simp] theorem State.refuse_foff (s : State) : (s.refuse).foff = s.foff := rfl
@[simp] theorem State.refuse_fneed (s : State) : (s.refuse).fneed = s.fneed := rfl
@[simp] theorem State.refuse_msgSize (s : State) : (s.refuse).msgSize = s.msgSize := rfl
@[simp] theorem State.refuse_laneImpl (s : State) : (s.refuse).laneImpl = s.laneImpl := rfl
@[simp] theorem State.refuse_msg (s : State) : (s.refuse).msg = s.msg := rfl
@[simp] theorem State.refuse_inputs (s : State) : (s.refuse).inputs = s.inputs := rfl
@[simp] theorem State.refuse_response (s : State) : (s.refuse).response = s.response := rfl
@[simp] theorem State.refuse_draws (s : State) : (s.refuse).draws = s.draws := rfl

/-! ### takeFault -/

@[simp] theorem State.takeFault_lanes (s : State) (r : Raise) :
    (s.takeFault r).lanes = s.lanes := rfl
@[simp] theorem State.takeFault_acc (s : State) (r : Raise) : (s.takeFault r).acc = s.acc := rfl
@[simp] theorem State.takeFault_off (s : State) (r : Raise) : (s.takeFault r).off = s.off := rfl
@[simp] theorem State.takeFault_seed (s : State) (r : Raise) : (s.takeFault r).seed = s.seed := rfl
@[simp] theorem State.takeFault_len (s : State) (r : Raise) : (s.takeFault r).len = s.len := rfl
@[simp] theorem State.takeFault_digest (s : State) (r : Raise) :
    (s.takeFault r).digest = s.digest := rfl
@[simp] theorem State.takeFault_status (s : State) (r : Raise) :
    (s.takeFault r).status = s.status.faulted r.cause.code := rfl
@[simp] theorem State.takeFault_cmd (s : State) (r : Raise) : (s.takeFault r).cmd = s.cmd := rfl
@[simp] theorem State.takeFault_pend (s : State) (r : Raise) : (s.takeFault r).pend = s.pend := rfl
@[simp] theorem State.takeFault_seq (s : State) (r : Raise) : (s.takeFault r).seq = .idle := rfl
@[simp] theorem State.takeFault_fcmd (s : State) (r : Raise) : (s.takeFault r).fcmd = s.pend := rfl
@[simp] theorem State.takeFault_foff (s : State) (r : Raise) : (s.takeFault r).foff = r.off := rfl
@[simp] theorem State.takeFault_fneed (s : State) (r : Raise) :
    (s.takeFault r).fneed = r.need := rfl
@[simp] theorem State.takeFault_msgSize (s : State) (r : Raise) :
    (s.takeFault r).msgSize = s.msgSize := rfl
@[simp] theorem State.takeFault_laneImpl (s : State) (r : Raise) :
    (s.takeFault r).laneImpl = s.laneImpl := rfl
@[simp] theorem State.takeFault_msg (s : State) (r : Raise) : (s.takeFault r).msg = s.msg := rfl
@[simp] theorem State.takeFault_inputs (s : State) (r : Raise) :
    (s.takeFault r).inputs = s.inputs := rfl
@[simp] theorem State.takeFault_response (s : State) (r : Raise) :
    (s.takeFault r).response = s.response := rfl
@[simp] theorem State.takeFault_draws (s : State) (r : Raise) :
    (s.takeFault r).draws = s.draws := rfl

/-! ### softReset -/

@[simp] theorem State.softReset_lanes (s : State) : (s.softReset).lanes = ⟨0, 0, 0, 0⟩ := rfl
@[simp] theorem State.softReset_acc (s : State) : (s.softReset).acc = 0 := rfl
@[simp] theorem State.softReset_off (s : State) : (s.softReset).off = 0 := rfl
@[simp] theorem State.softReset_seed (s : State) : (s.softReset).seed = 0 := rfl
@[simp] theorem State.softReset_len (s : State) : (s.softReset).len = 0 := rfl
@[simp] theorem State.softReset_digest (s : State) : (s.softReset).digest = 0 := rfl
@[simp] theorem State.softReset_status (s : State) : (s.softReset).status = Status.cleared := rfl
@[simp] theorem State.softReset_cmd (s : State) : (s.softReset).cmd = 0 := rfl
@[simp] theorem State.softReset_pend (s : State) : (s.softReset).pend = 0 := rfl
@[simp] theorem State.softReset_seq (s : State) : (s.softReset).seq = .idle := rfl
@[simp] theorem State.softReset_fcmd (s : State) : (s.softReset).fcmd = 0 := rfl
@[simp] theorem State.softReset_foff (s : State) : (s.softReset).foff = 0 := rfl
@[simp] theorem State.softReset_fneed (s : State) : (s.softReset).fneed = 0 := rfl
@[simp] theorem State.softReset_msgSize (s : State) : (s.softReset).msgSize = s.msgSize := rfl
@[simp] theorem State.softReset_laneImpl (s : State) : (s.softReset).laneImpl = s.laneImpl := rfl
@[simp] theorem State.softReset_msg (s : State) : (s.softReset).msg = s.msg := rfl
@[simp] theorem State.softReset_inputs (s : State) : (s.softReset).inputs = s.inputs := rfl
@[simp] theorem State.softReset_response (s : State) : (s.softReset).response = none := rfl
@[simp] theorem State.softReset_draws (s : State) : (s.softReset).draws = s.draws := rfl

/-! ### hardReset -/

@[simp] theorem State.hardReset_lanes (s : State) : (s.hardReset).lanes = ⟨0, 0, 0, 0⟩ := rfl
@[simp] theorem State.hardReset_acc (s : State) : (s.hardReset).acc = 0 := rfl
@[simp] theorem State.hardReset_off (s : State) : (s.hardReset).off = 0 := rfl
@[simp] theorem State.hardReset_seed (s : State) : (s.hardReset).seed = 0 := rfl
@[simp] theorem State.hardReset_len (s : State) : (s.hardReset).len = 0 := rfl
@[simp] theorem State.hardReset_digest (s : State) : (s.hardReset).digest = 0 := rfl
@[simp] theorem State.hardReset_status (s : State) : (s.hardReset).status = Status.cleared := rfl
@[simp] theorem State.hardReset_cmd (s : State) : (s.hardReset).cmd = 0 := rfl
@[simp] theorem State.hardReset_pend (s : State) : (s.hardReset).pend = 0 := rfl
@[simp] theorem State.hardReset_seq (s : State) : (s.hardReset).seq = .idle := rfl
@[simp] theorem State.hardReset_fcmd (s : State) : (s.hardReset).fcmd = 0 := rfl
@[simp] theorem State.hardReset_foff (s : State) : (s.hardReset).foff = 0 := rfl
@[simp] theorem State.hardReset_fneed (s : State) : (s.hardReset).fneed = 0 := rfl
@[simp] theorem State.hardReset_msgSize (s : State) : (s.hardReset).msgSize = s.msgSize := rfl
@[simp] theorem State.hardReset_laneImpl (s : State) : (s.hardReset).laneImpl = s.laneImpl := rfl
@[simp] theorem State.hardReset_msg (s : State) : (s.hardReset).msg = [] := rfl
@[simp] theorem State.hardReset_inputs (s : State) : (s.hardReset).inputs = s.inputs := rfl
@[simp] theorem State.hardReset_response (s : State) : (s.hardReset).response = none := rfl
@[simp] theorem State.hardReset_draws (s : State) : (s.hardReset).draws = s.draws := rfl

/-! ### advance -/

@[simp] theorem State.advance_lanes (s : State) (n : Nat) : (s.advance n).lanes = s.lanes := rfl
@[simp] theorem State.advance_acc (s : State) (n : Nat) : (s.advance n).acc = s.acc := rfl
@[simp] theorem State.advance_off (s : State) (n : Nat) :
    (s.advance n).off = s.off + BitVec.ofNat 64 n := rfl
@[simp] theorem State.advance_seed (s : State) (n : Nat) : (s.advance n).seed = s.seed := rfl
@[simp] theorem State.advance_len (s : State) (n : Nat) : (s.advance n).len = s.len := rfl
@[simp] theorem State.advance_digest (s : State) (n : Nat) : (s.advance n).digest = s.digest := rfl
@[simp] theorem State.advance_status (s : State) (n : Nat) : (s.advance n).status = s.status := rfl
@[simp] theorem State.advance_cmd (s : State) (n : Nat) : (s.advance n).cmd = s.cmd := rfl
@[simp] theorem State.advance_pend (s : State) (n : Nat) : (s.advance n).pend = s.pend := rfl
@[simp] theorem State.advance_seq (s : State) (n : Nat) : (s.advance n).seq = s.seq := rfl
@[simp] theorem State.advance_fcmd (s : State) (n : Nat) : (s.advance n).fcmd = s.fcmd := rfl
@[simp] theorem State.advance_foff (s : State) (n : Nat) : (s.advance n).foff = s.foff := rfl
@[simp] theorem State.advance_fneed (s : State) (n : Nat) : (s.advance n).fneed = s.fneed := rfl
@[simp] theorem State.advance_msgSize (s : State) (n : Nat) :
    (s.advance n).msgSize = s.msgSize := rfl
@[simp] theorem State.advance_laneImpl (s : State) (n : Nat) :
    (s.advance n).laneImpl = s.laneImpl := rfl
@[simp] theorem State.advance_msg (s : State) (n : Nat) : (s.advance n).msg = s.msg := rfl
@[simp] theorem State.advance_inputs (s : State) (n : Nat) : (s.advance n).inputs = s.inputs := rfl
@[simp] theorem State.advance_response (s : State) (n : Nat) :
    (s.advance n).response = s.response := rfl
@[simp] theorem State.advance_draws (s : State) (n : Nat) : (s.advance n).draws = s.draws + n := rfl

end Sys2Proof.Machine
end

