-- ==== Sys2Proof/Laws/Ops.lean ====
section
/-! SUPPORT. One lemma per shared operation that says once everything it can do; later proofs cite
these instead of unfolding the operation. -/

namespace Sys2Proof.Machine

/-! ### Reading the message -/

theorem State.byteAt_written {s : State} {a : Nat} {b : Byte} (h : Memory.lookup s.msg a = some b)
    (draw : Nat) : s.byteAt a draw = b := by
  simp [State.byteAt, h]

theorem State.byteAt_unwritten {s : State} {a : Nat} (h : Memory.lookup s.msg a = none)
    (draw : Nat) : s.byteAt a draw = Config.freeByte draw := by
  simp [State.byteAt, h]

/-- A read depends on the message alone. -/
theorem State.memRead_congr {s t : State} (h : s.msg = t.msg) (a draw n : Nat) :
    s.memRead a draw n = t.memRead a draw n := by
  induction n generalizing a draw with
  | zero => rfl
  | succ n ih => simp only [State.memRead, State.byteAt, h, ih]

/-- An `n`-byte value fits `8 * n` bits (20_memory.md R66). -/
theorem State.memRead_lt (s : State) (a draw n : Nat) : s.memRead a draw n < 256 ^ n := by
  induction n generalizing a draw with
  | zero => simp [State.memRead]
  | succ n ih =>
    have h1 := (s.byteAt a draw).isLt
    have h2 := ih (a + 1) (draw + 1)
    simp only [State.memRead]
    rw [Nat.pow_succ]
    omega

/-! ### The cursor -/

/-- `remaining()` does not wrap where the cursor's invariant holds (10_state.md R36). -/
theorem State.remaining_toNat {s : State} (h : s.off.toNat ≤ s.len.toNat) :
    s.remaining.toNat = s.len.toNat - s.off.toNat := by
  unfold State.remaining
  rw [BitVec.toNat_sub_of_le (BitVec.le_def.mpr h)]

theorem State.remaining_eq_zero {s : State} : s.remaining = 0 ↔ s.off = s.len := by
  unfold State.remaining
  constructor
  · intro h
    exact (BitVec.sub_eq_iff_eq_add.mp h).trans (BitVec.zero_add _) |>.symm
  · rintro h
    rw [h]
    exact BitVec.sub_self _

theorem State.readCheck_none_iff {s : State} {n : Nat} :
    s.readCheck n = none ↔ n ≤ s.remaining.toNat ∧ s.off.toNat + n ≤ s.msgSize := by
  unfold State.readCheck
  split
  · simp; omega
  · split <;> simp <;> omega

theorem State.readCheck_overrun {s : State} {n : Nat} (h : s.remaining.toNat < n) :
    s.readCheck n = some ⟨.cursorOverrun, s.off, BitVec.ofNat 64 n⟩ := by
  simp only [State.readCheck, h, if_true]

theorem State.readCheck_range {s : State} {n : Nat} (h1 : n ≤ s.remaining.toNat)
    (h2 : s.msgSize < s.off.toNat + n) :
    s.readCheck n = some ⟨.msgRange, s.off, BitVec.ofNat 64 n⟩ := by
  simp only [State.readCheck, Nat.not_lt.mpr h1, if_false, gt_iff_lt, h2, if_true]

/-- A read that raises: which of the two checks failed, in the order of R230. -/
theorem State.readCheck_some {s : State} {n : Nat} {r : Raise} (h : s.readCheck n = some r) :
    (s.remaining.toNat < n ∧ r = ⟨.cursorOverrun, s.off, BitVec.ofNat 64 n⟩) ∨
      (n ≤ s.remaining.toNat ∧ s.msgSize < s.off.toNat + n ∧
        r = ⟨.msgRange, s.off, BitVec.ofNat 64 n⟩) := by
  unfold State.readCheck at h
  split at h
  · exact .inl ⟨‹_›, by simpa using h.symm⟩
  · split at h
    · exact .inr ⟨by omega, by omega, by simpa using h.symm⟩
    · cases h

theorem State.curRead_ok {s t : State} {n v : Nat} (h : s.curRead n = .ok (v, t)) :
    s.readCheck n = none ∧ v = s.memRead s.off.toNat s.draws n ∧ t = s.advance n := by
  unfold State.curRead at h
  split at h
  · cases h
  · simp only [Except.ok.injEq, Prod.mk.injEq] at h
    exact ⟨‹_›, h.1.symm, h.2.symm⟩

theorem State.curRead_error {s : State} {n : Nat} {r : Raise} (h : s.curRead n = .error r) :
    s.readCheck n = some r := by
  unfold State.curRead at h
  split at h
  · simp_all
  · cases h

theorem State.curReadStripe_ok {s t : State} {k : Nat} {v : Lanes Nat}
    (h : s.curReadStripe k = .ok (v, t)) :
    s.readCheck (4 * k) = none ∧ t = s.advance (4 * k) := by
  unfold State.curReadStripe at h
  split at h
  · cases h
  · simp only [Except.ok.injEq, Prod.mk.injEq] at h
    exact ⟨‹_›, h.2.symm⟩

theorem State.curReadStripe_error {s : State} {k : Nat} {r : Raise}
    (h : s.curReadStripe k = .error r) : s.readCheck (4 * k) = some r := by
  unfold State.curReadStripe at h
  split at h
  · simp_all
  · cases h

/-! ### How commands end -/

/-- All a primitive can do: its body and completion, or a fault that changes the fault state only. -/
theorem runPrimitive_cases {body : Body} {s t : State} (h : runPrimitive body s = .next t) :
    (∃ u, body s = .ok u ∧ t = u.complete) ∨ (∃ r, body s = .error r ∧ t = s.takeFault r) := by
  unfold runPrimitive at h
  split at h <;> cases h
  · exact .inl ⟨_, ‹_›, rfl⟩
  · exact .inr ⟨_, ‹_›, rfl⟩

/-- All a `do` of HASH can do. -/
theorem hashDo_cases {body : Body} {phase : SeqPhase} {s t : State}
    (h : hashDo body phase s = .next t) :
    (∃ u, body s = .ok u ∧ t = u.setSeq phase) ∨
      (∃ r, body s = .error r ∧ t = s.takeHashFault r) := by
  unfold hashDo at h
  split at h <;> cases h
  · exact .inl ⟨_, ‹_›, rfl⟩
  · exact .inr ⟨_, ‹_›, rfl⟩

theorem hashLast_cases {body : Body} {s t : State} (h : hashLast body s = .next t) :
    (∃ u, body s = .ok u ∧ t = u.complete) ∨
      (∃ r, body s = .error r ∧ t = s.takeHashFault r) := by
  unfold hashLast at h
  split at h <;> cases h
  · exact .inl ⟨_, ‹_›, rfl⟩
  · exact .inr ⟨_, ‹_›, rfl⟩

/-- All the first step of HASH can do (44_oneshot.md R200). -/
theorem hashStart_cases {stripe : Nat} {init seed : Body} {s t : State}
    (h : hashStart stripe init seed s = .next t) :
    (s.msgSize < s.len.toNat ∧ t = s.takeFault ⟨.lenRange, 0, 0⟩) ∨
      (s.len.toNat ≤ s.msgSize ∧ stripe ≤ s.len.toNat ∧
        hashDo init .stripes (s.setOff 0) = .next t) ∨
      (s.len.toNat ≤ s.msgSize ∧ s.len.toNat < stripe ∧
        hashDo seed .lengthFold (s.setOff 0) = .next t) := by
  unfold hashStart at h
  split at h
  · cases h; exact .inl ⟨by omega, rfl⟩
  · split at h
    · exact .inr (.inl ⟨by omega, by omega, h⟩)
    · exact .inr (.inr ⟨by omega, by omega, h⟩)

/-! ### Steps -/

/-- All a step can do: the core's turn, a host operation, the reset input, or nothing. -/
theorem step_cases (s : State) :
    (∃ t, s.nextTurn = (.core, t) ∧ step s = coreTurn t) ∨
      (∃ op t, s.nextTurn = (.host op, t) ∧ step s = .next (t.hostAct op)) ∨
      (∃ t, s.nextTurn = (.hardReset, t) ∧ step s = .next t.hardReset) ∨
      (∃ t, s.nextTurn = (.idle, t) ∧ step s = .next t) := by
  unfold step
  rcases h : s.nextTurn with ⟨turn, t⟩
  cases turn with
  | core => exact .inl ⟨t, rfl, rfl⟩
  | host op => exact .inr (.inl ⟨op, t, rfl, rfl⟩)
  | hardReset => exact .inr (.inr (.inl ⟨t, rfl, rfl⟩))
  | idle => exact .inr (.inr (.inr ⟨t, rfl, rfl⟩))

/-- Choosing the turn changes only the events still to come, and gives the core a turn only while
BUSY = 1 (40_cursor.md R112). -/
theorem State.nextTurn_spec {s t : State} {turn : Turn} (h : s.nextTurn = (turn, t)) :
    t = s.setInputs t.inputs ∧ (turn = .core → s.status.busy = true) ∧
      (turn = .idle → s.status.busy = false) := by
  have core_busy : ∀ {u : Turn}, s.coreOrIdle = u →
      (u = .core → s.status.busy = true) ∧ (u = .idle → s.status.busy = false) := by
    intro u hu
    unfold State.coreOrIdle at hu
    split at hu <;> subst hu <;> simp_all
  unfold State.nextTurn at h
  split at h <;> simp only [Prod.mk.injEq] at h <;> obtain ⟨hu, rfl⟩ := h
  · exact ⟨rfl, core_busy hu⟩
  · exact ⟨rfl, core_busy hu⟩
  · subst hu; exact ⟨rfl, by simp, by simp⟩
  · subst hu; exact ⟨rfl, by simp, by simp⟩
  · subst hu; exact ⟨rfl, by simp, by simp⟩

end Sys2Proof.Machine
end

