-- ==== Sys2Proof/Laws/Safety.lean ====
section
/-! SUPPORT. How commands end, in the terms of Safety.lean, and the frames of what does not end. -/

namespace Sys2Proof.Machine

theorem State.complete_eq (s : State) : s.complete = s.afterCompletion := rfl

theorem State.takeFault_eq (s : State) (c : Cause) (o n : Word) :
    s.takeFault ⟨c, o, n⟩ = s.afterFault c.code o n := rfl

/-! ### A body that raises and a body that does not -/

theorem runPrimitive_ok {body : Body} {s t : State} (h : body s = .ok t) :
    runPrimitive body s = .next t.afterCompletion := by
  simp only [runPrimitive, h, State.complete_eq]

theorem runPrimitive_error {body : Body} {s : State} {c : Cause} {o n : Word}
    (h : body s = .error ⟨c, o, n⟩) : runPrimitive body s = .next (s.afterFault c.code o n) := by
  simp only [runPrimitive, h, State.takeFault_eq]

theorem hashDo_ok {body : Body} {phase : SeqPhase} {s t : State} (h : body s = .ok t) :
    hashDo body phase s = .next (t.setSeq phase) := by
  simp only [hashDo, h]

theorem hashLast_ok {body : Body} {s t : State} (h : body s = .ok t) :
    hashLast body s = .next t.afterCompletion := by
  simp only [hashLast, h, State.complete_eq]

/-! ### The bodies that read, by the outcome of the check -/

theorem bodyLaneStripe32_error {s : State} {r : Raise} (h : s.readCheck 16 = some r) :
    bodyLaneStripe32 s = .error r := by
  simp only [bodyLaneStripe32, State.curReadStripe, h]

theorem bodyLaneStripe64_error {s : State} {r : Raise} (h : s.readCheck 32 = some r) :
    bodyLaneStripe64 s = .error r := by
  simp only [bodyLaneStripe64, State.curReadStripe, h]

theorem tailBody32_error {n : Nat} {fold : Word32 → Word32 → Word32} {s : State} {r : Raise}
    (h : s.readCheck n = some r) : tailBody32 n fold s = .error r := by
  simp only [tailBody32, State.curRead, h]

theorem tailBody64_error {n : Nat} {fold : Word → Word → Word} {s : State} {r : Raise}
    (h : s.readCheck n = some r) : tailBody64 n fold s = .error r := by
  simp only [tailBody64, State.curRead, h]

theorem tailBody32_ok {n : Nat} {fold : Word32 → Word32 → Word32} {s : State}
    (h : s.readCheck n = none) :
    tailBody32 n fold s = .ok ((s.advance n).setAcc32
      (fold s.acc32 (BitVec.ofNat 32 (s.memRead s.off.toNat s.draws n)))) := by
  simp only [tailBody32, State.curRead, h]
  rfl

theorem tailBody64_ok {n : Nat} {fold : Word → Word → Word} {s : State}
    (h : s.readCheck n = none) :
    tailBody64 n fold s = .ok ((s.advance n).setAcc
      (fold s.acc (BitVec.ofNat 64 (s.memRead s.off.toNat s.draws n)))) := by
  simp only [tailBody64, State.curRead, h]
  rfl

theorem bodyLaneStripe32_ok {s : State} (h : s.readCheck 16 = none) :
    bodyLaneStripe32 s = .ok ((s.advance 16).setLanes32 (Lanes.zipWith round32 s.lanes32
      ⟨BitVec.ofNat 32 (s.memRead s.off.toNat s.draws 4),
       BitVec.ofNat 32 (s.memRead (s.off.toNat + 4) (s.draws + 4) 4),
       BitVec.ofNat 32 (s.memRead (s.off.toNat + 8) (s.draws + 8) 4),
       BitVec.ofNat 32 (s.memRead (s.off.toNat + 12) (s.draws + 12) 4)⟩)) := by
  simp only [bodyLaneStripe32, State.curReadStripe, h, laneRounds_eq]
  rfl

theorem bodyLaneStripe64_ok {s : State} (h : s.readCheck 32 = none) :
    bodyLaneStripe64 s = .ok ((s.advance 32).setLanes (Lanes.zipWith round64 s.lanes
      ⟨BitVec.ofNat 64 (s.memRead s.off.toNat s.draws 8),
       BitVec.ofNat 64 (s.memRead (s.off.toNat + 8) (s.draws + 8) 8),
       BitVec.ofNat 64 (s.memRead (s.off.toNat + 16) (s.draws + 16) 8),
       BitVec.ofNat 64 (s.memRead (s.off.toNat + 24) (s.draws + 24) 8)⟩)) := by
  simp only [bodyLaneStripe64, State.curReadStripe, h, laneRounds_eq]
  rfl

end Sys2Proof.Machine
end

