-- ==== Sys2Proof/Laws/Commands.lean ====
section
/-! SUPPORT. What the 21 commands can do, said once: every primitive is one body, a body writes
datapath registers only, and a body raises only what R221 lets it raise. -/

namespace Sys2Proof.Machine

/-- The body of a primitive command; HASH has none. -/
def primitiveBody : Instr → Body
  | .nop => fun s => .ok s
  | .curReset => bodyCurReset
  | .laneInit32 => bodyLaneInit32
  | .laneInit64 => bodyLaneInit64
  | .laneStripe32 => bodyLaneStripe32
  | .laneStripe64 => bodyLaneStripe64
  | .laneConv32 => bodyLaneConv32
  | .laneConv64 => bodyLaneConv64
  | .accSeed32 => bodyAccSeed32
  | .accSeed64 => bodyAccSeed64
  | .accLen32 => bodyAccLen32
  | .accLen64 => bodyAccLen64
  | .tail8W64 => bodyTail8W64
  | .tail4W32 => bodyTail4W32
  | .tail4W64 => bodyTail4W64
  | .tail1W32 => bodyTail1W32
  | .tail1W64 => bodyTail1W64
  | .accAval32 => bodyAccAval32
  | .accAval64 => bodyAccAval64
  | .hash32 => fun s => .ok s
  | .hash64 => fun s => .ok s

theorem exec_primitive {i : Instr} (h : isHash i = false) (s : State) :
    exec i s = runPrimitive (primitiveBody i) s := by
  cases i
  case hash32 => cases h
  case hash64 => cases h
  all_goals rfl

/-! ### A body writes datapath registers only -/

/-- `t` is `s` with datapath registers written and free values drawn, and nothing else. -/
def State.DatapathOnly (s t : State) : Prop :=
  ∃ l a o d n, t = { s with lanes := l, acc := a, off := o, digest := d, draws := n }

theorem State.DatapathOnly.refl (s : State) : s.DatapathOnly s :=
  ⟨s.lanes, s.acc, s.off, s.digest, s.draws, rfl⟩

theorem State.DatapathOnly.trans {s t u : State} (h : s.DatapathOnly t) (k : t.DatapathOnly u) :
    s.DatapathOnly u := by
  obtain ⟨_, _, _, _, _, rfl⟩ := h
  obtain ⟨l, a, o, d, n, rfl⟩ := k
  exact ⟨l, a, o, d, n, rfl⟩

theorem State.setLanes_datapath (s : State) (v : Lanes Word) : s.DatapathOnly (s.setLanes v) :=
  ⟨v, s.acc, s.off, s.digest, s.draws, rfl⟩

theorem State.setAcc_datapath (s : State) (v : Word) : s.DatapathOnly (s.setAcc v) :=
  ⟨s.lanes, v, s.off, s.digest, s.draws, rfl⟩

theorem State.setOff_datapath (s : State) (v : Word) : s.DatapathOnly (s.setOff v) :=
  ⟨s.lanes, s.acc, v, s.digest, s.draws, rfl⟩

theorem State.setDigest_datapath (s : State) (v : Word) : s.DatapathOnly (s.setDigest v) :=
  ⟨s.lanes, s.acc, s.off, v, s.draws, rfl⟩

theorem State.advance_datapath (s : State) (n : Nat) : s.DatapathOnly (s.advance n) :=
  ⟨s.lanes, s.acc, s.off + BitVec.ofNat 64 n, s.digest, s.draws + n, rfl⟩

theorem primitiveBody_datapath {i : Instr} {s t : State} (h : primitiveBody i s = .ok t) :
    s.DatapathOnly t := by
  have read32 : ∀ {n : Nat} {f : Word32 → Word32 → Word32}, tailBody32 n f s = .ok t →
      s.DatapathOnly t := by
    intro n f h
    cases hc : s.readCheck n with
    | none =>
      rw [tailBody32_ok hc, Except.ok.injEq] at h
      exact h ▸ (s.advance_datapath n).trans (State.setAcc_datapath _ _)
    | some r => rw [tailBody32_error hc] at h; cases h
  have read64 : ∀ {n : Nat} {f : Word → Word → Word}, tailBody64 n f s = .ok t →
      s.DatapathOnly t := by
    intro n f h
    cases hc : s.readCheck n with
    | none =>
      rw [tailBody64_ok hc, Except.ok.injEq] at h
      exact h ▸ (s.advance_datapath n).trans (State.setAcc_datapath _ _)
    | some r => rw [tailBody64_error hc] at h; cases h
  cases i
  case nop => exact (Except.ok.inj h) ▸ .refl s
  case curReset => exact (Except.ok.inj h) ▸ s.setOff_datapath _
  case laneInit32 => exact (Except.ok.inj h) ▸ s.setLanes_datapath _
  case laneInit64 => exact (Except.ok.inj h) ▸ s.setLanes_datapath _
  case laneStripe32 =>
    simp only [primitiveBody] at h
    cases hc : s.readCheck 16 with
    | none =>
      rw [bodyLaneStripe32_ok hc, Except.ok.injEq] at h
      exact h ▸ (s.advance_datapath 16).trans (State.setLanes_datapath _ _)
    | some r => rw [bodyLaneStripe32_error hc] at h; cases h
  case laneStripe64 =>
    simp only [primitiveBody] at h
    cases hc : s.readCheck 32 with
    | none =>
      rw [bodyLaneStripe64_ok hc, Except.ok.injEq] at h
      exact h ▸ (s.advance_datapath 32).trans (State.setLanes_datapath _ _)
    | some r => rw [bodyLaneStripe64_error hc] at h; cases h
  case laneConv32 => exact (Except.ok.inj h) ▸ s.setAcc_datapath _
  case laneConv64 => exact (Except.ok.inj h) ▸ s.setAcc_datapath _
  case accSeed32 => exact (Except.ok.inj h) ▸ s.setAcc_datapath _
  case accSeed64 => exact (Except.ok.inj h) ▸ s.setAcc_datapath _
  case accLen32 => exact (Except.ok.inj h) ▸ s.setAcc_datapath _
  case accLen64 => exact (Except.ok.inj h) ▸ s.setAcc_datapath _
  case tail8W64 => exact read64 h
  case tail4W64 => exact read64 h
  case tail1W64 => exact read64 h
  case tail4W32 => exact read32 h
  case tail1W32 => exact read32 h
  case accAval32 =>
    simp only [primitiveBody, bodyAccAval32] at h
    split at h
    · cases h
    · exact (Except.ok.inj h) ▸ (s.setAcc_datapath _).trans (State.setDigest_datapath _ _)
  case accAval64 =>
    simp only [primitiveBody, bodyAccAval64] at h
    split at h
    · cases h
    · exact (Except.ok.inj h) ▸ (s.setAcc_datapath _).trans (State.setDigest_datapath _ _)
  case hash32 => exact (Except.ok.inj h) ▸ .refl s
  case hash64 => exact (Except.ok.inj h) ▸ .refl s

/-! ### What a body raises -/

/-- The raises of the cursor reads and of the consumption check (60_exceptions.md R221). -/
def State.Raises (s : State) (r : Raise) : Prop :=
  (∃ n ∈ [1, 4, 8, 16, 32], (s.remaining.toNat < n ∧
        r = ⟨.cursorOverrun, s.off, BitVec.ofNat 64 n⟩ ∨
      n ≤ s.remaining.toNat ∧ s.msgSize < s.off.toNat + n ∧
        r = ⟨.msgRange, s.off, BitVec.ofNat 64 n⟩)) ∨
    (s.remaining ≠ 0 ∧ r = ⟨.unconsumed, s.off, s.remaining⟩)

theorem primitiveBody_raises {i : Instr} {s : State} {r : Raise} (h : primitiveBody i s = .error r) :
    s.Raises r := by
  have check : ∀ {n : Nat}, n ∈ [1, 4, 8, 16, 32] → s.readCheck n = some r → s.Raises r :=
    fun hn hc => .inl ⟨_, hn, State.readCheck_some hc⟩
  have read32 : ∀ {n : Nat} {f : Word32 → Word32 → Word32}, n ∈ [1, 4, 8, 16, 32] →
      tailBody32 n f s = .error r → s.Raises r := by
    intro n f hn h
    cases hc : s.readCheck n with
    | none => rw [tailBody32_ok hc] at h; cases h
    | some q => rw [tailBody32_error hc] at h; cases h; exact check hn hc
  have read64 : ∀ {n : Nat} {f : Word → Word → Word}, n ∈ [1, 4, 8, 16, 32] →
      tailBody64 n f s = .error r → s.Raises r := by
    intro n f hn h
    cases hc : s.readCheck n with
    | none => rw [tailBody64_ok hc] at h; cases h
    | some q => rw [tailBody64_error hc] at h; cases h; exact check hn hc
  have consumed : s.consumedCheck = some r → s.Raises r := by
    intro hc
    unfold State.consumedCheck at hc
    split at hc
    · exact .inr ⟨‹_›, (Option.some.inj hc).symm⟩
    · cases hc
  cases i
  case laneStripe32 =>
    simp only [primitiveBody] at h
    cases hc : s.readCheck 16 with
    | none => rw [bodyLaneStripe32_ok hc] at h; cases h
    | some q => rw [bodyLaneStripe32_error hc] at h; cases h; exact check (by decide) hc
  case laneStripe64 =>
    simp only [primitiveBody] at h
    cases hc : s.readCheck 32 with
    | none => rw [bodyLaneStripe64_ok hc] at h; cases h
    | some q => rw [bodyLaneStripe64_error hc] at h; cases h; exact check (by decide) hc
  case tail8W64 => exact read64 (by decide) h
  case tail4W64 => exact read64 (by decide) h
  case tail1W64 => exact read64 (by decide) h
  case tail4W32 => exact read32 (by decide) h
  case tail1W32 => exact read32 (by decide) h
  case accAval32 =>
    simp only [primitiveBody, bodyAccAval32] at h
    split at h <;> cases h
    exact consumed ‹_›
  case accAval64 =>
    simp only [primitiveBody, bodyAccAval64] at h
    split at h <;> cases h
    exact consumed ‹_›
  all_goals cases h

/-! ### HASH, one core step at a time -/

/-- All a core step of HASH can do: LEN_RANGE at the start; the body of one primitive (on a fresh
cursor at the start), with SEQ moved on; or, last, the body of ACC.AVAL with the completion. -/
theorem execHash_cases {h : Instr} (hh : isHash h = true) {s t : State} (ht : exec h s = .next t) :
    (s.seq = .idle ∧ s.msgSize < s.len.toNat ∧ t = s.takeFault ⟨.lenRange, 0, 0⟩) ∨
      (s.seq = .idle ∧ s.len.toNat ≤ s.msgSize ∧ ∃ i phase,
        i ∈ [Instr.laneInit32, Instr.laneInit64, Instr.accSeed32, Instr.accSeed64] ∧
        phase ≠ .idle ∧ hashDo (primitiveBody i) phase (s.setOff 0) = .next t) ∨
      (s.seq ≠ .idle ∧ ∃ i phase,
        ((i = .laneStripe32 ∧ 16 ≤ s.remaining.toNat) ∨
          (i = .laneStripe64 ∧ 32 ≤ s.remaining.toNat) ∨
          i ∈ [Instr.laneConv32, Instr.laneConv64, Instr.accLen32, Instr.accLen64] ∨
          (i = .tail8W64 ∧ 8 ≤ s.remaining.toNat) ∨
          (i ∈ [Instr.tail4W32, Instr.tail4W64] ∧ 4 ≤ s.remaining.toNat) ∨
          (i ∈ [Instr.tail1W32, Instr.tail1W64] ∧ 1 ≤ s.remaining.toNat)) ∧
        phase ≠ .idle ∧ hashDo (primitiveBody i) phase s = .next t) ∨
      (s.seq ≠ .idle ∧ s.remaining = 0 ∧ ∃ i ∈ [Instr.accAval32, Instr.accAval64],
        hashLast (primitiveBody i) s = .next t) := by
  have zero : ¬ s.remaining.toNat ≥ 1 → s.remaining = 0 := by
    intro h0
    apply BitVec.eq_of_toNat_eq
    simp only [BitVec.ofNat_eq_ofNat, BitVec.toNat_ofNat, Nat.zero_mod]
    omega
  cases h
  case hash32 =>
    simp only [exec, execHash32] at ht
    cases hs : s.seq with
    | idle =>
      simp only [hs] at ht
      rcases hashStart_cases ht with h1 | ⟨h1, -, h2⟩ | ⟨h1, -, h2⟩
      · exact .inl ⟨rfl, h1⟩
      · exact .inr (.inl ⟨rfl, h1, .laneInit32, _, by decide, by decide, h2⟩)
      · exact .inr (.inl ⟨rfl, h1, .accSeed32, _, by decide, by decide, h2⟩)
    | stripes =>
      simp only [hs, hashStripes] at ht
      split at ht
      · exact .inr (.inr (.inl ⟨by decide, .laneStripe32, _, .inl ⟨rfl, ‹_›⟩, by decide, ht⟩))
      · exact .inr (.inr (.inl ⟨by decide, .laneConv32, _, .inr (.inr (.inl (by decide))), by decide,
          ht⟩))
    | lengthFold =>
      simp only [hs] at ht
      exact .inr (.inr (.inl ⟨by decide, .accLen32, _, .inr (.inr (.inl (by decide))), by decide, ht⟩))
    | tail =>
      simp only [hs] at ht
      split at ht
      · exact .inr (.inr (.inl ⟨by decide, .tail4W32, _,
          .inr (.inr (.inr (.inr (.inl ⟨by decide, ‹_›⟩)))), by decide, ht⟩))
      · split at ht
        · exact .inr (.inr (.inl ⟨by decide, .tail1W32, _,
            .inr (.inr (.inr (.inr (.inr ⟨by decide, ‹_›⟩)))), by decide, ht⟩))
        · exact .inr (.inr (.inr ⟨by decide, zero ‹_›, .accAval32, by decide, ht⟩))
  case hash64 =>
    simp only [exec, execHash64] at ht
    cases hs : s.seq with
    | idle =>
      simp only [hs] at ht
      rcases hashStart_cases ht with h1 | ⟨h1, -, h2⟩ | ⟨h1, -, h2⟩
      · exact .inl ⟨rfl, h1⟩
      · exact .inr (.inl ⟨rfl, h1, .laneInit64, _, by decide, by decide, h2⟩)
      · exact .inr (.inl ⟨rfl, h1, .accSeed64, _, by decide, by decide, h2⟩)
    | stripes =>
      simp only [hs, hashStripes] at ht
      split at ht
      · exact .inr (.inr (.inl ⟨by decide, .laneStripe64, _, .inr (.inl ⟨rfl, ‹_›⟩), by decide, ht⟩))
      · exact .inr (.inr (.inl ⟨by decide, .laneConv64, _, .inr (.inr (.inl (by decide))), by decide,
          ht⟩))
    | lengthFold =>
      simp only [hs] at ht
      exact .inr (.inr (.inl ⟨by decide, .accLen64, _, .inr (.inr (.inl (by decide))), by decide, ht⟩))
    | tail =>
      simp only [hs] at ht
      split at ht
      · exact .inr (.inr (.inl ⟨by decide, .tail8W64, _,
          .inr (.inr (.inr (.inl ⟨rfl, ‹_›⟩))), by decide, ht⟩))
      · split at ht
        · exact .inr (.inr (.inl ⟨by decide, .tail4W64, _,
            .inr (.inr (.inr (.inr (.inl ⟨by decide, ‹_›⟩)))), by decide, ht⟩))
        · split at ht
          · exact .inr (.inr (.inl ⟨by decide, .tail1W64, _,
              .inr (.inr (.inr (.inr (.inr ⟨by decide, ‹_›⟩)))), by decide, ht⟩))
          · exact .inr (.inr (.inr ⟨by decide, zero ‹_›, .accAval64, by decide, ht⟩))
  all_goals cases hh

end Sys2Proof.Machine
end

