-- ==== Sys2Proof/Laws/Config.lean ====
section
/-! SUPPORT. All that is known of MSG_SIZE (00_scope.md R8). -/

namespace Sys2Proof.Config

theorem msgSize_ge : 64 ≤ msgSize := by unfold msgSize; omega

theorem msgSize_le : msgSize ≤ 2 ^ 63 := by unfold msgSize; omega

end Sys2Proof.Config
end

