-- ==== Sys2Proof/Laws/HostPort.lean ====
section
/-! SUPPORT. The register map read backwards (10_state.md R33, 20_memory.md R71). -/

namespace Sys2Proof.Machine

theorem slotAt_bad {off : Word} : slotAt off = .bad ↔ off.toNat % 8 ≠ 0 ∨ 0x100 ≤ off.toNat := by
  unfold slotAt
  constructor
  · intro h
    split at h
    · assumption
    · split at h <;> cases h
  · intro h
    rw [if_pos h]

/-- Only its own offset selects a register. -/
theorem slotAt_reg {off : Word} {r : HostReg} (h : slotAt off = .reg r) : off = r.offset := by
  unfold slotAt at h
  split at h
  · cases h
  · have hq : off.toNat = 8 * (off.toNat / 8) := by omega
    generalize off.toNat / 8 = q at h hq
    split at h <;> cases h <;> (apply BitVec.eq_of_toNat_eq; rw [hq]; rfl)

/-- All a register write can do (20_memory.md R63). -/
theorem State.regWrite_cases (s : State) (off v : Word) :
    (s.regWrite off v = s.refuse) ∨
      (slotAt off = .reg .ctrl ∧ v.getLsbD 0 = true ∧ s.regWrite off v = s.softReset) ∨
      (slotAt off = .reg .cmd ∧ s.status.busy = false ∧ s.status.fault = false ∧
        s.regWrite off v = s.issue v) ∨
      (slotAt off = .reg .seed ∧ s.status.busy = false ∧ s.regWrite off v = s.setSeed v) ∨
      (slotAt off = .reg .len ∧ s.status.busy = false ∧
        s.regWrite off v = (s.setLen v).setOff 0) ∨
      s.regWrite off v = s := by
  unfold State.regWrite
  cases hs : slotAt off with
  | bad => exact .inl rfl
  | reserved => simp
  | reg r =>
    cases r <;> simp only
    case ctrl => cases hv : v.getLsbD 0 <;> simp
    case cmd =>
      cases hb : s.status.busy <;> cases hf : s.status.fault <;> simp
    case seed => cases hb : s.status.busy <;> simp
    case len => cases hb : s.status.busy <;> simp
    all_goals simp

/-- All a register read can do (20_memory.md R62): refuse, draw a free value, or nothing. -/
theorem State.regRead_cases (s : State) (off : Word) :
    (slotAt off = .bad ∧ (s.regRead off).2 = s.refuse) ∨
      (slotAt off ≠ .bad ∧ (s.regRead off).2 = s.setDraws (s.draws + 1)) ∨
      (slotAt off ≠ .bad ∧ (s.regRead off).2 = s) := by
  unfold State.regRead
  cases slotAt off with
  | bad => exact .inl ⟨rfl, rfl⟩
  | reserved => exact .inr (.inr ⟨by simp, rfl⟩)
  | reg r =>
    cases h : s.status.busy && r.unstableWhileBusy
    · exact .inr (.inr ⟨by simp, by simp [h]⟩)
    · exact .inr (.inl ⟨by simp, by simp [h]⟩)

/-- All a host operation can do. -/
theorem State.hostAct_cases (s : State) (op : HostOp) :
    ∃ (t : State) (r : Option Response), s.hostAct op = t.setResponse r ∧
      (t = s.refuse ∨ t = s ∨ t = s.setDraws (s.draws + 1) ∨
        (t = s.softReset ∧ ∃ off v, op = .regWrite off v ∧ slotAt off = .reg .ctrl ∧
          v.getLsbD 0 = true) ∨
        (s.status.busy = false ∧
          ((s.status.fault = false ∧ ∃ v, t = s.issue v) ∨ (∃ v, t = s.setSeed v) ∨
            (∃ off v, op = .regWrite off v ∧ slotAt off = .reg .len ∧
              t = (s.setLen v).setOff 0) ∨
            ∃ a b, a < s.msgSize ∧ t = s.setMsg (Memory.insert s.msg a b)))) := by
  cases op with
  | regRead off =>
    refine ⟨(s.regRead off).2, some (.word (s.regRead off).1), rfl, ?_⟩
    rcases s.regRead_cases off with ⟨-, h⟩ | ⟨-, h⟩ | ⟨-, h⟩ <;> simp [h]
  | regWrite off v =>
    refine ⟨s.regWrite off v, none, rfl, ?_⟩
    rcases s.regWrite_cases off v with h | ⟨hs, hv, h⟩ | ⟨-, hb, hf, h⟩ | ⟨-, hb, h⟩ | ⟨hs, hb, h⟩ | h
    · exact .inl h
    · exact .inr (.inr (.inr (.inl ⟨h, off, v, rfl, hs, hv⟩)))
    · exact .inr (.inr (.inr (.inr ⟨hb, .inl ⟨hf, v, h⟩⟩)))
    · exact .inr (.inr (.inr (.inr ⟨hb, .inr (.inl ⟨v, h⟩)⟩)))
    · exact .inr (.inr (.inr (.inr ⟨hb, .inr (.inr (.inl ⟨off, v, rfl, hs, h⟩))⟩)))
    · exact .inr (.inl h)
  | msgRead a =>
    refine ⟨(s.msgRead a).2, some (.byte (s.msgRead a).1), rfl, ?_⟩
    unfold State.msgRead
    split <;> simp
  | msgWrite a b =>
    refine ⟨s.msgWrite a b, none, rfl, ?_⟩
    unfold State.msgWrite
    split
    · exact .inl rfl
    · rename_i h
      simp only [ge_iff_le, not_or, Nat.not_le, Bool.not_eq_true] at h
      exact .inr (.inr (.inr (.inr ⟨h.2, .inr (.inr (.inr ⟨a.toNat, b, h.1, rfl⟩))⟩)))

end Sys2Proof.Machine
end

