-- ==== Sys2Proof/Laws/Memory.lean ====
section
/-! SUPPORT. The message memory: read after write, and that every memory operation keeps the
canonical form. -/

namespace Sys2Proof.Machine

theorem Memory.lookup_insert_self (m : Memory) (a : Nat) (b : Byte) :
    Memory.lookup (Memory.insert m a b) a = some b := by
  induction m with
  | nil => simp [Memory.insert, Memory.lookup]
  | cons c m ih =>
    unfold Memory.insert
    split
    · simp [Memory.lookup]
    · split
      · simp [Memory.lookup]
      · have : c.1 ≠ a := by omega
        simp [Memory.lookup, this, ih]

theorem Memory.lookup_insert_ne (m : Memory) {a a' : Nat} (b : Byte) (h : a' ≠ a) :
    Memory.lookup (Memory.insert m a b) a' = Memory.lookup m a' := by
  induction m with
  | nil => simp [Memory.insert, Memory.lookup, Ne.symm h]
  | cons c m ih =>
    unfold Memory.insert
    split
    · simp [Memory.lookup, Ne.symm h]
    · split
      · next h2 => subst h2; simp [Memory.lookup, Ne.symm h]
      · simp [Memory.lookup, ih]

/-- A nonempty memory is canonical when its first address is below the next and the rest is canonical. -/
theorem Memory.wf_cons {c : Host.Cell} {m : Memory} :
    Memory.wf (c :: m) = true ↔ (∀ d, m.head? = some d → c.1 < d.1) ∧ Memory.wf m = true := by
  cases m with
  | nil => simp [Memory.wf]
  | cons d m => simp [Memory.wf]

theorem Memory.head_insert (m : Memory) (a : Nat) (b : Byte) :
    ∃ d, (Memory.insert m a b).head? = some d ∧ (d.1 = a ∨ ∃ c, m.head? = some c ∧ d = c) := by
  cases m with
  | nil => exact ⟨(a, b), rfl, .inl rfl⟩
  | cons c m =>
    unfold Memory.insert
    split
    · exact ⟨(a, b), rfl, .inl rfl⟩
    · split
      · exact ⟨(a, b), rfl, .inl rfl⟩
      · exact ⟨c, rfl, .inr ⟨c, rfl, rfl⟩⟩

theorem Memory.insert_wf (m : Memory) (a : Nat) (b : Byte) (h : Memory.wf m = true) :
    Memory.wf (Memory.insert m a b) = true := by
  induction m with
  | nil => rfl
  | cons c m ih =>
    obtain ⟨hc, hm⟩ := Memory.wf_cons.mp h
    unfold Memory.insert
    split
    · next lt =>
      exact Memory.wf_cons.mpr ⟨by simpa using lt, h⟩
    · split
      · next eq =>
        subst eq
        exact Memory.wf_cons.mpr ⟨hc, hm⟩
      · refine Memory.wf_cons.mpr ⟨fun d hd => ?_, ih hm⟩
        obtain ⟨e, he, hea⟩ := Memory.head_insert m a b
        obtain rfl : e = d := Option.some.inj (he.symm.trans hd)
        rcases hea with h1 | ⟨f, hf, rfl⟩
        · omega
        · exact hc _ hf

theorem Memory.inRange_cons {c : Host.Cell} {m : Memory} {size : Nat} :
    Memory.inRange (c :: m) size = true ↔ c.1 < size ∧ Memory.inRange m size = true := by
  simp only [Memory.inRange, List.all_cons, Bool.and_eq_true, decide_eq_true_eq]

theorem Memory.insert_inRange (m : Memory) (a size : Nat) (b : Byte) (ha : a < size)
    (h : Memory.inRange m size = true) : Memory.inRange (Memory.insert m a b) size = true := by
  induction m with
  | nil => exact Memory.inRange_cons.mpr ⟨ha, h⟩
  | cons c m ih =>
    obtain ⟨hc, hm⟩ := Memory.inRange_cons.mp h
    unfold Memory.insert
    split
    · exact Memory.inRange_cons.mpr ⟨ha, h⟩
    · split
      · exact Memory.inRange_cons.mpr ⟨ha, hm⟩
      · exact Memory.inRange_cons.mpr ⟨hc, ih hm⟩

/-- Every host operation keeps the canonical form (20_memory.md R64; no other operation writes MSG). -/
theorem State.msgWrite_wf (s : State) (a : Word) (b : Byte) (h : Memory.wf s.msg = true) :
    Memory.wf (s.msgWrite a b).msg = true := by
  unfold State.msgWrite
  split
  · exact h
  · exact Memory.insert_wf _ _ _ h

theorem State.reset_msg_wf : Memory.wf State.reset.msg = true := rfl

theorem State.softReset_msg_wf (s : State) (h : Memory.wf s.msg = true) :
    Memory.wf s.softReset.msg = true := h

theorem State.hardReset_msg_wf (s : State) : Memory.wf s.hardReset.msg = true := rfl

end Sys2Proof.Machine
end

