-- ==== Sys2Proof/Laws/PerInstr.lean ====
section
/-! SUPPORT. Statements about every command as syntax, one lemma per constructor. -/

/-- The word of a command has legal fields (30_encoding.md R94): no encoding sets a reserved bit, an
unassigned OP or a forbidden W. -/
def Sys2Proof.Laws.EncodedLegal.Statement (i : Sys2Proof.Instr) : Prop :=
  (Sys2Proof.fieldsOf (Sys2Proof.encode i)).legal = true

namespace Sys2Proof.Laws.EncodedLegal

theorem nop : Statement .nop := by unfold Statement; decide
theorem curReset : Statement .curReset := by unfold Statement; decide
theorem laneInit32 : Statement .laneInit32 := by unfold Statement; decide
theorem laneInit64 : Statement .laneInit64 := by unfold Statement; decide
theorem laneStripe32 : Statement .laneStripe32 := by unfold Statement; decide
theorem laneStripe64 : Statement .laneStripe64 := by unfold Statement; decide
theorem laneConv32 : Statement .laneConv32 := by unfold Statement; decide
theorem laneConv64 : Statement .laneConv64 := by unfold Statement; decide
theorem accSeed32 : Statement .accSeed32 := by unfold Statement; decide
theorem accSeed64 : Statement .accSeed64 := by unfold Statement; decide
theorem accLen32 : Statement .accLen32 := by unfold Statement; decide
theorem accLen64 : Statement .accLen64 := by unfold Statement; decide
theorem tail8W64 : Statement .tail8W64 := by unfold Statement; decide
theorem tail4W32 : Statement .tail4W32 := by unfold Statement; decide
theorem tail4W64 : Statement .tail4W64 := by unfold Statement; decide
theorem tail1W32 : Statement .tail1W32 := by unfold Statement; decide
theorem tail1W64 : Statement .tail1W64 := by unfold Statement; decide
theorem accAval32 : Statement .accAval32 := by unfold Statement; decide
theorem accAval64 : Statement .accAval64 := by unfold Statement; decide
theorem hash32 : Statement .hash32 := by unfold Statement; decide
theorem hash64 : Statement .hash64 := by unfold Statement; decide

end Sys2Proof.Laws.EncodedLegal
end

