-- ==== Sys2Proof/Tests/Slice0.lean ====
section
/-! SUPPORT. Tests of the model. Expected values are those of 95_test_vectors.md (the id stands in
each test's comment) or the words of 30_encoding.md R92; `witness_<Name>` shows that the hypotheses
of `Obligations.<Name>` can be met together, clause by clause. -/

namespace Sys2Proof.Tests

open Sys2Proof Sys2Proof.Machine

/-! ### Small states -/

def nextOf : Host.Outcome State Fault Refusal → Option State
  | .next t => some t
  | .fault _ => none
  | .refused _ => none

/-- A block with the least message memory, as 95_test_vectors.md section 2.10 takes it. -/
def small : State := { State.reset with msgSize := 64, laneImpl := .parallel }

/-- Cells from an address on. -/
def cellsAt (a : Nat) : List Byte → Memory
  | [] => []
  | b :: rest => (a, b) :: cellsAt (a + 1) rest

/-- `MSG[i] = i` for i < n. -/
def counting (n : Nat) : List Byte := (List.range n).map (BitVec.ofNat 8)

/-- A block holding a message, with LEN its length and OFF = 0. -/
def holding (m : List Byte) : State :=
  { small with msg := cellsAt 0 m, len := BitVec.ofNat 64 m.length }

/-- The same with a command accepted. -/
def issued (w : Word) (s : State) : State := s.issue w

def lanesOf : Lanes Word → List Word
  | l => [l.l1, l.l2, l.l3, l.l4]

/-- What one step of `exec` leaves: the lanes, ACC, OFF, DIGEST and STATUS. -/
def after (i : Instr) (s : State) : Option (List Word × Word × Word × Word × Word) :=
  (nextOf (exec i (s.issue (encode i)))).map fun t =>
    (lanesOf t.lanes, t.acc, t.off, t.digest, t.status.word)

/-- STATUS, FCMD, FOFF and FNEED after `n` steps. -/
def recordAfter (n : Nat) (s : State) : Option (Word × Word × Word × Word) :=
  (nextOf (Host.Core.run core n s)).map fun t => (t.status.word, t.fcmd, t.foff, t.fneed)

/-- STATUS, OFF and DIGEST after `n` steps. -/
def digestAfter (n : Nat) (s : State) : Option (Word × Word × Word) :=
  (nextOf (Host.Core.run core n s)).map fun t => (t.status.word, t.off, t.digest)

/-- A host program, then core turns. -/
def running (s : State) (program : List Stmt) : State := { s with inputs := expandScript program }

def lanesI1 : Lanes Word := ⟨0x24234428, 0x85EBCA77, 0x00000000, 0x61C8864F⟩
def lanesI5 : Lanes Word := ⟨0x60EA27EEADC0B5D6, 0xC2B2AE3D27D4EB4F, 0, 0x61C8864E7A143579⟩
def lanesS1 : Lanes Word := ⟨0xF817BCCB, 0x0222719B, 0xD4B0C0A4, 0xDEBB7574⟩
def lanesS2 : Lanes Word :=
  ⟨0xF4B53B57406B5E99, 0xC3D34B511FC32561, 0xCB26C007C8A1553F, 0x9A44D001A7F91C07⟩

/-! ### WellFormed: an ill-formed term for each check -/

theorem test_legal_fields : (fieldsOf 0x110).legal = true := by decide
theorem test_rsvZero_refuses : (⟨0x10, 1, 1⟩ : CmdFields).rsvZero = false ∧
    (⟨0x10, 1, 1⟩ : CmdFields).legal = false := by decide
theorem test_opAssigned_refuses : (⟨0x0B, 0, 0⟩ : CmdFields).opAssigned = false ∧
    (⟨0x11, 0, 0⟩ : CmdFields).legal = false := by decide
theorem test_widthAllowed_refuses : (⟨0x00, 1, 0⟩ : CmdFields).widthAllowed = false ∧
    (⟨0x01, 1, 0⟩ : CmdFields).legal = false ∧ (⟨0x07, 0, 0⟩ : CmdFields).legal = false := by decide

/-! ### Decoding: words written out as RSV, W, OP from R90 and R92 -/

theorem test_decode_cursor :
    decode (0#55 ++ 0b0#1 ++ 0b00000000#8) = .instr .nop ∧
    decode (0#55 ++ 0b0#1 ++ 0b00000001#8) = .instr .curReset := by decide
theorem test_decode_lanes :
    decode (0#55 ++ 0b0#1 ++ 0b00000010#8) = .instr .laneInit32 ∧
    decode (0#55 ++ 0b1#1 ++ 0b00000010#8) = .instr .laneInit64 ∧
    decode (0#55 ++ 0b0#1 ++ 0b00000011#8) = .instr .laneStripe32 ∧
    decode (0#55 ++ 0b1#1 ++ 0b00000011#8) = .instr .laneStripe64 ∧
    decode (0#55 ++ 0b0#1 ++ 0b00000100#8) = .instr .laneConv32 ∧
    decode (0#55 ++ 0b1#1 ++ 0b00000100#8) = .instr .laneConv64 := by decide
theorem test_decode_acc :
    decode (0#55 ++ 0b0#1 ++ 0b00000101#8) = .instr .accSeed32 ∧
    decode (0#55 ++ 0b1#1 ++ 0b00000101#8) = .instr .accSeed64 ∧
    decode (0#55 ++ 0b0#1 ++ 0b00000110#8) = .instr .accLen32 ∧
    decode (0#55 ++ 0b1#1 ++ 0b00000110#8) = .instr .accLen64 := by decide
theorem test_decode_tail :
    decode (0#55 ++ 0b1#1 ++ 0b00000111#8) = .instr .tail8W64 ∧
    decode (0#55 ++ 0b0#1 ++ 0b00001000#8) = .instr .tail4W32 ∧
    decode (0#55 ++ 0b1#1 ++ 0b00001000#8) = .instr .tail4W64 ∧
    decode (0#55 ++ 0b0#1 ++ 0b00001001#8) = .instr .tail1W32 ∧
    decode (0#55 ++ 0b1#1 ++ 0b00001001#8) = .instr .tail1W64 := by decide
theorem test_decode_finalize_oneshot :
    decode (0#55 ++ 0b0#1 ++ 0b00001010#8) = .instr .accAval32 ∧
    decode (0#55 ++ 0b1#1 ++ 0b00001010#8) = .instr .accAval64 ∧
    decode (0#55 ++ 0b0#1 ++ 0b00010000#8) = .instr .hash32 ∧
    decode (0#55 ++ 0b1#1 ++ 0b00010000#8) = .instr .hash64 := by decide
/-- The examples of R222, and the last OP. -/
theorem test_decode_refuses :
    decode 0x100 = .rejected .widthForbidden ∧ decode 0x007 = .rejected .widthForbidden ∧
    decode 0x00B = .rejected .reservedOp ∧ decode 0x011 = .rejected .reservedOp ∧
    decode 0x1FF = .rejected .reservedOp ∧
    decode 0x100000110 = .rejected .reservedBits := by decide
theorem test_encode_words :
    [Instr.nop, .curReset, .laneInit32, .laneInit64, .tail8W64, .accAval32, .accAval64, .hash32,
      .hash64].map encode = [0x000, 0x001, 0x002, 0x102, 0x107, 0x00A, 0x10A, 0x010, 0x110] := by
  decide
/-- A command runs as the first step after reset. -/
theorem test_withFetchWord_runs :
    digestAfter 1 (State.reset.withFetchWord 64 0x000) = some (0x2, 0, 0) ∧
    decodeTableWord 64 0x110 = some .hash64 := by decide
/-- V-H3, from hardware reset, whatever MSG_SIZE is. -/
theorem test_reset_hash64_empty :
    digestAfter 3 (State.reset.withFetchWord 64 0x110) = some (0x2, 0, 0xEF46DB3751D8E999) := by
  decide

/-! ### The round (V-R2, V-R3, V-R5, V-R6) -/

theorem test_round32 : round32 0 1 = 0x8DF8C7AD#32 ∧ round32 1 0 = 0xEF362000#32 := by
  decide
theorem test_round64 : round64 0 1 = 0x7F0E345BE3649CD2#64 ∧
    round64 1 0 = 0xC2F5E54380000000#64 := by decide

/-! ### Commands, one step each -/

/-- V-C1. -/
theorem test_nop : after .nop { small with acc := 7, off := 3, len := 5, digest := 9 } =
    some ([0, 0, 0, 0], 7, 3, 9, 0x2) := by decide
/-- V-C2. -/
theorem test_curReset : after .curReset { small with off := 16, len := 20 } =
    some ([0, 0, 0, 0], 0, 0, 0, 0x2) := by decide
/-- V-I3. -/
theorem test_laneInit32_wraps : after .laneInit32 { small with seed := 0xFFFFFFFF } =
    some ([0x24234427, 0x85EBCA76, 0xFFFFFFFF, 0x61C8864E], 0, 0, 0, 0x2) := by decide
/-- V-I4. -/
theorem test_laneInit32_upper : after .laneInit32 { small with seed := 0x100000045 } =
    some ([0x2423446D, 0x85EBCABC, 0x00000045, 0x61C88694], 0, 0, 0, 0x2) := by decide
/-- V-I6. -/
theorem test_laneInit64 : after .laneInit64 { small with seed := 69 } =
    some ([0x60EA27EEADC0B61B, 0xC2B2AE3D27D4EB94, 0x45, 0x61C8864E7A1435BE], 0, 0, 0, 0x2) := by
  decide
/-- V-I7. -/
theorem test_laneInit64_wraps : after .laneInit64 { small with seed := 0xFFFFFFFFFFFFFFFF } =
    some ([0x60EA27EEADC0B5D5, 0xC2B2AE3D27D4EB4E, 0xFFFFFFFFFFFFFFFF, 0x61C8864E7A143578],
      0, 0, 0, 0x2) := by decide
/-- V-S1, on each datapath. -/
theorem test_laneStripe32 : ∀ impl ∈ [LaneImpl.parallel, .serial],
    after .laneStripe32 { holding (counting 16) with lanes := lanesI1, laneImpl := impl } =
      some (lanesOf lanesS1, 0, 16, 0, 0x2) := by decide
/-- V-S5, V-F2: the lanes and OFF stand. -/
theorem test_laneStripe32_overrun :
    after .laneStripe32 { holding (counting 15) with lanes := lanesI1 } =
      some (lanesOf lanesI1, 0, 0, 0, 0x204) := by decide
/-- V-S2, on each datapath. -/
theorem test_laneStripe64 : ∀ impl ∈ [LaneImpl.parallel, .serial],
    after .laneStripe64 { holding (counting 32) with lanes := lanesI5, laneImpl := impl } =
      some (lanesOf lanesS2, 0, 32, 0, 0x2) := by decide
/-- V-S6. -/
theorem test_laneStripe64_overrun :
    recordAfter 1 (issued 0x103 { holding (counting 40) with off := 16 }) =
      some (0x204, 0x103, 16, 32) := by decide
/-- V-V1, V-V2. -/
theorem test_laneConv32 :
    after .laneConv32 { small with lanes := lanesS1 } =
      some (lanesOf lanesS1, 0xE3460F50, 0, 0, 0x2) ∧
    after .laneConv32 { small with lanes := lanesI1 } =
      some (lanesOf lanesI1, 0x57694B34, 0, 0, 0x2) := by decide
/-- V-V3, V-V4. -/
theorem test_laneConv64 :
    after .laneConv64 { small with lanes := lanesS2 } =
      some (lanesOf lanesS2, 0xC845DBC88C411C2D, 0, 0, 0x2) ∧
    after .laneConv64 { small with lanes := lanesI5 } =
      some (lanesOf lanesI5, 0x5AE1634AE2A70C06, 0, 0, 0x2) := by decide
/-- V-A2, V-A4. -/
theorem test_accSeed32 :
    after .accSeed32 { small with seed := 0xFFFFFFFF } =
      some ([0, 0, 0, 0], 0x165667B0, 0, 0, 0x2) ∧
    after .accSeed32 { small with seed := 0xE9A99850 } =
      some ([0, 0, 0, 0], 1, 0, 0, 0x2) := by decide
/-- V-A6, V-A8. -/
theorem test_accSeed64 :
    after .accSeed64 { small with seed := 0xFFFFFFFFFFFFFFFF } =
      some ([0, 0, 0, 0], 0x27D4EB2F165667C4, 0, 0, 0x2) ∧
    after .accSeed64 { small with seed := 0xD82B14D0E9A9983C } =
      some ([0, 0, 0, 0], 1, 0, 0, 0x2) := by decide
/-- V-L3, V-L4. -/
theorem test_accLen32 :
    after .accLen32 { small with len := 0x100000005 } = some ([0, 0, 0, 0], 5, 0, 0, 0x2) ∧
    after .accLen32 { small with acc := 0x123400000000 } =
      some ([0, 0, 0, 0], 0, 0, 0, 0x2) := by decide
/-- V-L5, V-L6. -/
theorem test_accLen64 :
    after .accLen64 { small with len := 0x100000005 } =
      some ([0, 0, 0, 0], 0x100000005, 0, 0, 0x2) ∧
    after .accLen64 { small with acc := 0xFFFFFFFFFFFFFFFF, len := 2 } =
      some ([0, 0, 0, 0], 1, 0, 0, 0x2) := by decide
/-- V-T1, V-T2. -/
theorem test_tail8W64 :
    after .tail8W64 (holding [1, 2, 3, 4, 5, 6, 7, 8]) =
      some ([0, 0, 0, 0], 0xE1C88BC21846FA07, 8, 0, 0x2) ∧
    after .tail8W64 (holding [0, 0, 0, 0, 0, 0, 0, 0]) =
      some ([0, 0, 0, 0], 0x85EBCA77C2B2AE63, 8, 0, 0x2) := by decide
/-- V-T3 and V-C4. -/
theorem test_tail4W32 : after .tail4W32 (holding [1, 2, 3, 4]) =
    some ([0, 0, 0, 0], 0x9793C0B4, 4, 0, 0x2) := by decide
/-- V-F6 and V-F7: the overrun comes before the range. -/
theorem test_tail4W32_priority :
    recordAfter 1 (issued 0x008 { small with len := 65, off := 62 }) =
      some (0x204, 0x008, 62, 4) ∧
    recordAfter 1 (issued 0x008 { small with len := 72, off := 62 }) =
      some (0x304, 0x008, 62, 4) := by decide
/-- V-T4, V-T9. -/
theorem test_tail4W64 :
    after .tail4W64 (holding [1, 2, 3, 4]) =
      some ([0, 0, 0, 0], 0x7FD274CB383844CB, 4, 0, 0x2) ∧
    recordAfter 1 (issued 0x108 (holding [1, 2, 3])) = some (0x204, 0x108, 0, 4) := by
  decide
/-- V-T5, V-T10. -/
theorem test_tail1W32 :
    after .tail1W32 (holding [0xFF]) = some ([0, 0, 0, 0], 0x07285A00, 1, 0, 0x2) ∧
    recordAfter 1 (issued 0x009 { small with len := 5, off := 5 }) = some (0x204, 0x009, 5, 1) := by
  decide
/-- V-T6, V-F3. -/
theorem test_tail1W64 :
    after .tail1W64 (holding [0xFF]) = some ([0, 0, 0, 0], 0x6F974583107FD1D8, 1, 0, 0x2) ∧
    recordAfter 1 (issued 0x109 { small with len := 0x1000, off := 64 }) =
      some (0x304, 0x109, 64, 1) := by decide
/-- V-F32c, V-F32d. -/
theorem test_accAval32 :
    after .accAval32 { small with acc := 0xFFFFFFFF } =
      some ([0, 0, 0, 0], 0x0173FB23, 0, 0x0173FB23, 0x2) ∧
    after .accAval32 { small with acc := 0x100000001 } =
      some ([0, 0, 0, 0], 0x606D18A8, 0, 0x606D18A8, 0x2) := by decide
/-- V-F5, V-F32f. -/
theorem test_accAval32_unconsumed :
    recordAfter 1 (issued 0x00A { small with len := 3 }) = some (0x504, 0x00A, 0, 3) := by
  decide
/-- V-F64b, V-F64c. -/
theorem test_accAval64 :
    after .accAval64 { small with acc := 1 } =
      some ([0, 0, 0, 0], 0x283A72A5B9AB93D3, 0, 0x283A72A5B9AB93D3, 0x2) ∧
    after .accAval64 { small with acc := 0xFFFFFFFFFFFFFFFF } =
      some ([0, 0, 0, 0], 0x100AB62DAADD9289, 0, 0x100AB62DAADD9289, 0x2) := by decide
/-- V-H2. -/
theorem test_hash32_short : digestAfter 3 (issued 0x010 { small with seed := 69 }) =
    some (0x2, 0, 0x41E3EE9D) := by decide
/-- V-H7. -/
theorem test_hash32_long : digestAfter 6 (issued 0x010 (holding (counting 17))) =
    some (0x2, 17, 0x7C77ADC2) := by decide
/-- V-H10. -/
theorem test_hash64_long : digestAfter 6 (issued 0x110 (holding (counting 33))) =
    some (0x2, 33, 0x0C535D1ACAFB8EAD) := by decide
/-- V-F4. -/
theorem test_hash64_lenRange : recordAfter 1 (issued 0x110 { small with len := 65 }) =
    some (0x404, 0x110, 0, 0) := by decide

/-! ### Faults and the host's ports -/

/-- V-F1, V-F1c. -/
theorem test_illegal_words :
    recordAfter 1 (issued 0x100 small) = some (0x104, 0x100, 0, 0) ∧
    recordAfter 1 (issued 0x100000110 small) = some (0x104, 0x100000110, 0, 0) := by decide
/-- V-C3. -/
theorem test_len_write_clears_off :
    ({ small with off := 16, len := 20 }.regWrite 0x28 20).off = 0 := by decide
/-- V-E1, V-E2, V-E4, V-E5. -/
theorem test_host_errors :
    (small.regRead 0x04).1 = 0 ∧ (small.regRead 0x04).2.status.word = 0x8 ∧
    (small.regWrite 0x100 5).status.word = 0x8 ∧
    (small.msgWrite 64 1).status.word = 0x8 ∧ (small.msgWrite 64 1).msg = [] ∧
    (small.regRead 0x88).1 = 0 ∧ (small.regRead 0x88).2.status.word = 0 := by decide
/-- V-E3: halted, a CMD write is refused; V-E6: a soft reset leaves the halt (program L3-3). -/
theorem test_halt_and_soft_reset :
    recordAfter 3 (running (holding (counting 15)) [.cmd .laneStripe32, .wait]) =
      some (0x204, 0x003, 0, 16) ∧
    recordAfter 5 (running (holding (counting 15)) [.cmd .laneStripe32, .wait, .cmd .nop]) =
      some (0x20C, 0x003, 0, 16) ∧
    recordAfter 5 (running (holding (counting 15)) [.cmd .laneStripe32, .wait, .srst]) =
      some (0, 0, 0, 0) := by decide
/-- The ID value of R31, and STATUS while a command runs. -/
theorem test_reg_reads : (small.regRead 0).1 = 0x0000000143485858#64 ∧
    ((issued 0x003 small).regRead 0x10).1 = 1 ∧ (small.regRead 0x80).1 = 64 := by decide
/-- A load as R99 expands it. -/
theorem test_load : expandScript [.load ['a']] =
    [.host (.msgWrite 0 0x61), .host (.regWrite 0x28 1)] := by decide

/-! ### Witnesses: the hypotheses of each statement are met together -/

theorem witness_IllegalWordRaisesIllegalCmd : ¬ ∃ i, decode (issued 0x00B small).pend = .instr i := by
  rintro ⟨i, h⟩
  have : decode (issued 0x00B small).pend = .rejected .reservedOp := by decide
  rw [this] at h
  cases h

theorem witness_CoreTurnRunsThePendingCommand :
    (issued 0x110 small).status.busy = true ∧ (issued 0x110 small).inputs = [] ∧
    decode (issued 0x110 small).pend = .instr .hash64 ∧
    ({ issued 0x110 small with inputs := [.core] } : State).inputs = .core :: [] := by decide

theorem witness_EachEventIsOneStep :
    (running small [.rd .status]).inputs = [.host (.regRead 0x10)] ∧
    ({ small with inputs := [.hardReset] } : State).inputs = .hardReset :: [] ∧
    (small.status.busy = false ∧ ({ small with inputs := [.core] } : State).inputs = .core :: []) ∧
    (small.status.busy = false ∧ small.inputs = []) ∧
    (running (issued 0 small) [.wait]).inputs = .wait :: [] ∧
    (running small [.wait]).inputs = .wait :: [] := by decide

/-- A completion, and a fault. -/
theorem witness_PrimitivesEndInOneStep :
    (∃ t, isHash .nop = false ∧ exec .nop (issued 0 small) = .next t) ∧
    (∃ t, isHash .tail1W32 = false ∧ exec .tail1W32 (issued 9 small) = .next t) :=
  ⟨⟨_, rfl, rfl⟩, ⟨_, rfl, rfl⟩⟩

/-- The three clauses at 8 bytes: seven left; eight left and one past MSG; the last eight of MSG. -/
theorem witness_CursorReadChecksThenAdvances :
    8 ∈ [1, 4, 8] ∧
    ((7 : Word) - 0).toNat < 8 ∧
    (8 ≤ ((65 : Word) - 57).toNat ∧ 64 < (57 : Word).toNat + 8) ∧
    (8 ≤ ((64 : Word) - 56).toNat ∧ (56 : Word).toNat + 8 ≤ 64) ∧
    (56 : Word).toNat ≤ (64 : Word).toNat := by decide

theorem witness_FaultEntryWritesTheRecord :
    (Cause.unconsumed, (5 : BitVec 4)) ∈ ([(.illegalCmd, 1), (.cursorOverrun, 2), (.msgRange, 3),
      (.lenRange, 4), (.unconsumed, 5)] : List (Cause × BitVec 4)) := by decide

theorem witness_StripeReadIsFourReads :
    ({ small with len := 64, off := 32 } : State).off.toNat + 4 * 8 ≤ 64 ∧
    ({ small with len := 64, off := 48 } : State).off.toNat + 4 * 4 ≤ 64 := by decide

theorem witness_LaneStripe32Rounds :
    ((15 : Word) - 0).toNat < 16 ∧
    (16 ≤ ((65 : Word) - 49).toNat ∧ 64 < (49 : Word).toNat + 16) ∧
    (16 ≤ ((64 : Word) - 48).toNat ∧ (48 : Word).toNat + 16 ≤ 64) := by decide

theorem witness_LaneStripe64Rounds :
    ((31 : Word) - 0).toNat < 32 ∧
    (32 ≤ ((65 : Word) - 33).toNat ∧ 64 < (33 : Word).toNat + 32) ∧
    (32 ≤ ((64 : Word) - 32).toNat ∧ (32 : Word).toNat + 32 ≤ 64) := by decide

theorem witness_LaneConvergence : ∃ merge : Word → Word → Word, ∀ acc l, merge acc l =
    (acc ^^^ ((l * 0xC2B2AE3D27D4EB4F#64).rotateLeft 31 * 0x9E3779B185EBCA87#64)) *
      0x9E3779B185EBCA87#64 + 0x85EBCA77C2B2AE63#64 := ⟨_, fun _ _ => rfl⟩

/-- The cursor clauses of the three widths; the fold of a command is any function of the given form. -/
theorem witness_Tail64Folds :
    (((7 : Word) - 0).toNat < 8 ∧ ((3 : Word) - 0).toNat < 4 ∧ ((5 : Word) - 5).toNat < 1) ∧
    (1 ≤ ((65 : Word) - 64).toNat ∧ 64 < (64 : Word).toNat + 1) ∧
    (1 ≤ ((64 : Word) - 63).toNat ∧ (63 : Word).toNat + 1 ≤ 64) ∧
    ∃ fold : Word → Word, ∀ v, fold v =
      (small.acc ^^^ (v * 0x27D4EB2F165667C5#64)).rotateLeft 11 * 0x9E3779B185EBCA87#64 :=
  ⟨by decide, by decide, by decide, _, fun _ => rfl⟩

theorem witness_Tail32Folds :
    (((3 : Word) - 0).toNat < 4 ∧ ((5 : Word) - 5).toNat < 1) ∧
    (4 ≤ ((65 : Word) - 61).toNat ∧ 64 < (61 : Word).toNat + 4) ∧
    (4 ≤ ((64 : Word) - 60).toNat ∧ (60 : Word).toNat + 4 ≤ 64) ∧
    ∃ fold : Word32 → Word32, ∀ v, fold v =
      (small.acc.setWidth 32 + v * 0x165667B1#32).rotateLeft 11 * 0x9E3779B1#32 :=
  ⟨by decide, by decide, by decide, _, fun _ => rfl⟩

theorem witness_AvalancheOrUnconsumed :
    ({ small with len := 1 } : State).len - ({ small with len := 1 } : State).off ≠ 0 ∧
    small.len - small.off = 0 := by decide

/-- LEN one above MSG_SIZE; MSG_SIZE; one stripe; one byte less; the empty message. -/
theorem witness_HashStartChoosesThePath :
    small.seq = .idle ∧ small.msgSize < (65 : Word).toNat ∧
    ((64 : Word).toNat ≤ small.msgSize ∧ 32 ≤ (64 : Word).toNat) ∧
    ((16 : Word).toNat ≤ small.msgSize ∧ 16 ≤ (16 : Word).toNat) ∧
    ((31 : Word).toNat ≤ small.msgSize ∧ (31 : Word).toNat < 32) ∧
    ((15 : Word).toNat ≤ small.msgSize ∧ (15 : Word).toNat < 16) ∧
    ((0 : Word).toNat ≤ small.msgSize ∧ (0 : Word).toNat < 16) := by decide

/-- Each clause at the last address and at the ends of its range of bytes left. -/
theorem witness_Hash32StepsArePrimitives :
    (∀ p : SeqPhase, ∃ s : State, s.seq = p) ∧
    (16 ≤ ((64 : Word) - 48).toNat ∧ (48 : Word).toNat + 16 ≤ 64) ∧ ((15 : Word) - 0).toNat < 16 ∧
    (4 ≤ ((64 : Word) - 60).toNat ∧ (60 : Word).toNat + 4 ≤ 64) ∧
    (1 ≤ ((64 : Word) - 63).toNat ∧ ((64 : Word) - 63).toNat < 4 ∧ (63 : Word).toNat + 1 ≤ 64) ∧
    (1 ≤ ((64 : Word) - 61).toNat ∧ ((64 : Word) - 61).toNat < 4 ∧ (61 : Word).toNat + 1 ≤ 64) ∧
    small.len = small.off :=
  ⟨fun p => ⟨{ small with seq := p }, rfl⟩, by decide, by decide, by decide, by decide, by decide, rfl⟩

theorem witness_Hash64StepsArePrimitives :
    (∀ p : SeqPhase, ∃ s : State, s.seq = p) ∧
    (32 ≤ ((64 : Word) - 32).toNat ∧ (32 : Word).toNat + 32 ≤ 64) ∧ ((31 : Word) - 0).toNat < 32 ∧
    (8 ≤ ((64 : Word) - 56).toNat ∧ (56 : Word).toNat + 8 ≤ 64) ∧
    (4 ≤ ((64 : Word) - 57).toNat ∧ ((64 : Word) - 57).toNat < 8 ∧ (57 : Word).toNat + 4 ≤ 64) ∧
    (1 ≤ ((64 : Word) - 63).toNat ∧ ((64 : Word) - 63).toNat < 4 ∧ (63 : Word).toNat + 1 ≤ 64) ∧
    small.len = small.off :=
  ⟨fun p => ⟨{ small with seq := p }, rfl⟩, by decide, by decide, by decide, by decide, by decide, rfl⟩

/-- Bytes stored from address `a` on are read back there. -/
theorem lookup_cellsAt (m : List Byte) (a k : Nat) (h : k < m.length) :
    Memory.lookup (cellsAt a m) (a + k) = some m[k] := by
  induction m generalizing a k with
  | nil => simp at h
  | cons b rest ih =>
    cases k with
    | zero => simp [cellsAt, Memory.lookup]
    | succ k =>
      have := ih (a + 1) k (by simpa using h)
      simp only [cellsAt, Memory.lookup]
      rw [if_neg (by omega), ← Nat.add_assoc, Nat.add_right_comm a k 1, this]
      rfl

theorem holding_message (m : List Byte) (h : m.length ≤ 64) : (holding m).Message m :=
  ⟨by simp [holding, Nat.mod_eq_of_lt (show m.length < 18446744073709551616 by omega)],
    fun k hk => by
      have := lookup_cellsAt m 0 k hk
      rwa [Nat.zero_add] at this⟩

/-- A message of one stripe and a byte, a full memory, and the empty message. -/
theorem witness_Hash32ComputesXxHash32 : ∀ m ∈ [counting 17, counting 64, []],
    (issued 0x010 (holding m)).inputs = [] ∧ (issued 0x010 (holding m)).status.busy = true ∧
    (issued 0x010 (holding m)).pend = 0x010 ∧ (issued 0x010 (holding m)).seq = .idle ∧
    (issued 0x010 (holding m)).Message m ∧ m.length ≤ (issued 0x010 (holding m)).msgSize := by
  intro m hm
  have h64 : m.length ≤ 64 := by
    have : ∀ m ∈ [counting 17, counting 64, []], m.length ≤ 64 := by decide
    exact this m hm
  exact ⟨rfl, rfl, rfl, rfl, holding_message m h64, h64⟩

theorem witness_Hash64ComputesXxHash64 : ∀ m ∈ [counting 33, counting 64, []],
    (issued 0x110 (holding m)).inputs = [] ∧ (issued 0x110 (holding m)).status.busy = true ∧
    (issued 0x110 (holding m)).pend = 0x110 ∧ (issued 0x110 (holding m)).seq = .idle ∧
    (issued 0x110 (holding m)).Message m ∧ m.length ≤ (issued 0x110 (holding m)).msgSize := by
  intro m hm
  have h64 : m.length ≤ 64 := by
    have : ∀ m ∈ [counting 33, counting 64, []], m.length ≤ 64 := by decide
    exact this m hm
  exact ⟨rfl, rfl, rfl, rfl, holding_message m h64, h64⟩

/-- A running HASH while the host polls, reads a register and has three writes refused. -/
def disturbed (w : Word) : State :=
  running (issued w (holding (counting 17)))
    [.rd .acc, .wr .seed 5, .wmsg 0 9, .cmd .nop, .wait]

theorem witness_HashIsUndisturbedByTheHost :
    ((disturbed 0x010).status.busy = true ∧ (disturbed 0x010).pend = 0x010 ∧
      (disturbed 0x110).pend = 0x110 ∧ (disturbed 0x010).seq = .idle ∧
      (counting 17).length ≤ (disturbed 0x010).msgSize ∧
      ∀ e ∈ (disturbed 0x010).inputs, e.abandons = false) ∧
    (disturbed 0x010).Message (counting 17) :=
  ⟨by decide, holding_message (counting 17) (by decide)⟩

theorem witness_PrimitiveSequenceEqualsHash :
    ((holding (counting 17)).inputs = [] ∧ (holding (counting 17)).status.busy = false ∧
      (holding (counting 17)).status.fault = false ∧ (holding (counting 17)).seq = .idle ∧
      (counting 17).length ≤ (holding (counting 17)).msgSize) ∧
    (holding (counting 17)).Message (counting 17) :=
  ⟨by decide, holding_message (counting 17) (by decide)⟩

theorem witness_ReferenceGivesKnownAnswers : ∃ nobody fox : List Byte,
    nobody = [0x4E, 0x6F, 0x62, 0x6F, 0x64, 0x79, 0x20, 0x69, 0x6E, 0x73, 0x70, 0x65, 0x63, 0x74,
      0x73, 0x20, 0x74, 0x68, 0x65, 0x20, 0x73, 0x70, 0x61, 0x6D, 0x6D, 0x69, 0x73, 0x68, 0x20,
      0x72, 0x65, 0x70, 0x65, 0x74, 0x69, 0x74, 0x69, 0x6F, 0x6E] ∧
    fox = [0x54, 0x68, 0x65, 0x20, 0x71, 0x75, 0x69, 0x63, 0x6B, 0x20, 0x62, 0x72, 0x6F, 0x77,
      0x6E, 0x20, 0x66, 0x6F, 0x78, 0x20, 0x6A, 0x75, 0x6D, 0x70, 0x73, 0x20, 0x6F, 0x76, 0x65,
      0x72, 0x20, 0x74, 0x68, 0x65, 0x20, 0x6C, 0x61, 0x7A, 0x79, 0x20, 0x64, 0x6F, 0x67] ∧
    nobody.length = 39 ∧ fox.length = 43 := ⟨_, _, rfl, rfl, rfl, rfl⟩

theorem witness_CommandsNeverWriteTheHostsRegisters :
    ∃ t, exec .laneInit64 (issued 0x102 small) = .next t := ⟨_, rfl⟩

theorem witness_RegistersWrittenOnlyByTheirCommands :
    isHash .accSeed64 = false ∧ ∃ t, exec .accSeed64 (issued 0x105 small) = .next t := ⟨rfl, _, rfl⟩

/-- CURSOR_OVERRUN of a primitive, UNCONSUMED, and LEN_RANGE at the start of HASH. -/
theorem witness_FaultsArePrecise :
    (∃ t, isHash .tail1W32 = false ∧ exec .tail1W32 (issued 9 small) = .next t ∧
      small.status.fault = false ∧ t.status.fault = true) ∧
    (∃ t, isHash .accAval64 = false ∧ exec .accAval64 { small with len := 1 } = .next t ∧
      t.status.fault = true) ∧
    (∃ t, small.seq = .idle ∧ exec .hash32 { small with len := 65 } = .next t ∧
      t.status.fault = true) :=
  ⟨⟨_, rfl, rfl, rfl, rfl⟩, ⟨_, rfl, rfl, rfl⟩, ⟨_, rfl, rfl, rfl⟩⟩

theorem witness_NarrowResultsAreZeroExtended :
    .accLen32 ∈ narrowCommands ∧
    ∃ t, exec .accLen32 (issued 6 small) = .next t ∧ t.status.fault = false :=
  ⟨by decide, _, rfl, rfl⟩

theorem witness_NarrowCommandsIgnoreUpperHalves :
    .accLen32 ∈ narrowCommands ∧ small.SameLow32 { small with acc := 0x100000000 } ∧
    (∃ t, exec .accLen32 small = .next t) ∧
    ∃ t, exec .accLen32 { small with acc := 0x100000000 } = .next t :=
  ⟨by decide, ⟨_, _, _, rfl, by decide, by decide, rfl⟩, ⟨_, rfl⟩, ⟨_, rfl⟩⟩

theorem witness_RegReadFollowsTheMap :
    ((0xF9 : Word).toNat % 8 ≠ 0 ∧ 0x100 ≤ (0x100 : Word).toNat) ∧
    ((issued 0 small).status.busy = true ∧ small.status.busy = false) ∧
    (0x30 : Word) ∈ ([0x30, 0x38, 0x40, 0x48, 0x50, 0x58, 0x60] : List Word) ∧
    ((0x88 : Word).toNat % 8 = 0 ∧ 0x88 ≤ (0x88 : Word).toNat ∧ (0xF8 : Word).toNat ≤ 0xF8 ∧
      (0xF8 : Word).toNat % 8 = 0) := by decide

theorem witness_RegWriteFollowsTheMap :
    (3 : Word).getLsbD 0 = true ∧ (2 : Word).getLsbD 0 = false ∧
    (issued 0 small).status.busy = true ∧
    ({ small with status := small.status.faulted 2 } : State).status.fault = true ∧
    (small.status.busy = false ∧ small.status.fault = false) ∧
    ((0x00 : Word) ∉ ([0x08, 0x18, 0x20, 0x28] : List Word) ∧ (0xF8 : Word).toNat < 0x100 ∧
      (0xF8 : Word) ∉ ([0x08, 0x18, 0x20, 0x28] : List Word)) := by decide

theorem witness_MessagePortReadsWhatWasWritten :
    small.msgSize ≤ (64 : Word).toNat ∧ (issued 0 small).status.busy = true ∧
    ((63 : Word).toNat < small.msgSize ∧ small.status.busy = false) ∧
    Memory.lookup (holding [7]).msg 0 = some 7 := by decide

/-- The same bytes written in two orders. -/
theorem witness_CanonicalMemoryIsUnique :
    Memory.wf (Memory.insert (Memory.insert [] 4 1) 2 3) = true ∧
    Memory.insert (Memory.insert [] 4 1) 2 3 = Memory.insert (Memory.insert [] 2 3) 4 1 := by decide

theorem witness_ResetsClearEverythingButTheMessage :
    ({ small with inputs := [.hardReset] } : State).inputs = .hardReset :: [] ∧
    (running small [.srst]).inputs = [.host (.regWrite 0x08 1)] ∧ (1 : Word).getLsbD 0 = true := by
  decide

theorem witness_HerrIsSticky :
    (running small.refuse [.rd .acc]).status.herr = true ∧
    (running small.refuse [.rd .acc]).NoResetNext ∧
    ∃ t, step (running small.refuse [.rd .acc]) = .next t := by
  refine ⟨rfl, ?_, ⟨_, rfl⟩⟩
  rintro e rest h
  obtain ⟨rfl, -⟩ := List.cons.inj h
  decide

/-- A halted block whose host writes LEN. -/
def halted : State := running (small.takeFault ⟨.cursorOverrun, 0, 16⟩) [.wr .len 5]

theorem witness_HaltedUntilReset :
    halted.status.fault = true ∧ halted.status.busy = false ∧ halted.NoResetNext ∧
    ∃ t, step halted = .next t := by
  refine ⟨rfl, rfl, ?_, ⟨_, rfl⟩⟩
  rintro e rest h
  obtain ⟨rfl, -⟩ := List.cons.inj h
  decide

theorem witness_HostCannotTouchARunningCommand :
    (issued 0x010 small).status.busy = true ∧ (Event.host (.regWrite 0x18 0)).abandons = false := by
  decide

theorem small_inv : small.Inv where
  off_le_len := by decide
  busy_not_fault := by decide
  done_not_running := by decide
  pend_eq_cmd := rfl
  seq_running := fun h => absurd rfl h
  no_fault_no_record := by decide
  fault_record := by decide
  msg_wf := rfl
  msg_inRange := rfl
  msgSize_bounds := by decide

/-- A HASH.32 in its stripe phase. -/
def midHash : State := { issued 0x010 (holding (counting 17)) with seq := .stripes }

theorem midHash_inv : midHash.Inv where
  off_le_len := by decide
  busy_not_fault := by decide
  done_not_running := by decide
  pend_eq_cmd := rfl
  seq_running := fun _ => by decide
  no_fault_no_record := by decide
  fault_record := by decide
  msg_wf := by decide
  msg_inRange := by decide
  msgSize_bounds := by decide

theorem witness_EveryStepKeepsTheInvariant :
    (small.Inv ∧ ∃ t, step small = .next t) ∧ midHash.Inv ∧ ∃ t, step midHash = .next t :=
  ⟨⟨small_inv, _, rfl⟩, midHash_inv, _, rfl⟩

theorem witness_HashNeverFaultsAfterItsStart :
    midHash.Inv ∧ isHash .hash32 = true ∧ midHash.seq ≠ .idle ∧
    ∃ t, exec .hash32 midHash = .next t := ⟨midHash_inv, rfl, by decide, _, rfl⟩

theorem witness_ResetStateValues : ∃ s : State, s = State.reset := ⟨_, rfl⟩

theorem witness_ScriptExpandsToHostOperations :
    1 < ([7, 8] : List Byte).length ∧ ('~').toNat < 128 := by decide

/-- An idle step, and a stripe about to run on the serial datapath. -/
theorem witness_LaneImplDoesNotChangeAnyStep :
    (∃ t, step small = .next t) ∧
    ∃ t, step { issued 0x103 (holding (counting 32)) with laneImpl := .serial } = .next t :=
  ⟨⟨_, rfl⟩, ⟨_, rfl⟩⟩

/-- A register write, a read, and the two message operations. -/
theorem test_hostAct :
    (small.hostAct (.regWrite 0x20 5)).seed = 5 ∧
    (small.hostAct (.regRead 0x80)).response = some (.word 64) ∧
    ((small.hostAct (.msgWrite 3 7)).hostAct (.msgRead 3)).response = some (.byte 7) ∧
    (small.hostAct (.msgWrite 3 7)).response = none := by decide

end Sys2Proof.Tests
end

section
/-! How a register write acts on each slot of the register map (20_memory.md R63), and O40. -/

namespace Sys2Proof.Machine

/-! ### The register map at a register's own offset (10_state.md R33) -/

@[simp] theorem slotAt_offset (r : HostReg) : slotAt r.offset = .reg r := by cases r <;> rfl

/-! ### RegWrite, one slot at a time -/

theorem State.regWrite_bad (s : State) {off : Word} (v : Word) (h : slotAt off = .bad) :
    s.regWrite off v = s.refuse := by
  simp only [State.regWrite, h]

theorem State.regWrite_ctrl (s : State) (v : Word) :
    s.regWrite HostReg.ctrl.offset v = if v.getLsbD 0 then s.softReset else s := by
  simp only [State.regWrite, slotAt_offset]

theorem State.regWrite_cmd (s : State) (v : Word) :
    s.regWrite HostReg.cmd.offset v =
      if s.status.busy || s.status.fault then s.refuse else s.issue v := by
  simp only [State.regWrite, slotAt_offset]

theorem State.regWrite_seed (s : State) (v : Word) :
    s.regWrite HostReg.seed.offset v = if s.status.busy then s.refuse else s.setSeed v := by
  simp only [State.regWrite, slotAt_offset]

theorem State.regWrite_len (s : State) (v : Word) :
    s.regWrite HostReg.len.offset v =
      if s.status.busy then s.refuse else (s.setLen v).setOff 0 := by
  simp only [State.regWrite, slotAt_offset]

/-- The registers a host write can reach; the others are read-only. -/
def HostReg.writable (r : HostReg) : Bool := r ∈ [HostReg.ctrl, .cmd, .seed, .len]

/-- The offsets R63 names are those of the writable registers. -/
theorem HostReg.offset_mem_of_writable {r : HostReg} (h : r.writable = true) :
    r.offset ∈ ([0x08, 0x18, 0x20, 0x28] : List Word) := by
  cases r <;> revert h <;> decide

theorem State.regWrite_reserved (s : State) {off : Word} (v : Word) (h : slotAt off = .reserved) :
    s.regWrite off v = s := by
  simp only [State.regWrite, h]

theorem State.regWrite_readOnly (s : State) {r : HostReg} (v : Word) (h : r.writable = false) :
    s.regWrite r.offset v = s := by
  cases r
  case ctrl | cmd | seed | len => cases h
  all_goals simp only [State.regWrite, slotAt_offset]

/-- R63's "otherwise: no effect": an accepted offset that is none of the four written ones. -/
theorem State.regWrite_otherwise (s : State) {off : Word} (v : Word) (hbad : slotAt off ≠ .bad)
    (hoff : off ∉ ([0x08, 0x18, 0x20, 0x28] : List Word)) : s.regWrite off v = s := by
  cases hs : slotAt off with
  | bad => exact absurd hs hbad
  | reserved => exact s.regWrite_reserved v hs
  | reg r =>
    obtain rfl := slotAt_reg hs
    have hr : r.writable = false := by
      by_contra hw
      exact hoff (HostReg.offset_mem_of_writable (by simpa using hw))
    exact s.regWrite_readOnly v hr

/-- Settles O40, one clause per slot of the register map. -/
theorem regWriteFollowsTheMap : Obligations.RegWriteFollowsTheMap := by
  rintro s refused off v rfl
  refine ⟨fun h => ?bad, fun h => ?reset, fun h => ?noReset, fun h => ?cmdRefused,
    fun hb hf => ?cmdIssued, fun hb => ⟨?seedRefused, ?lenRefused⟩, fun hb => ⟨?seed, ?len⟩,
    fun ha hlt hoff => ?otherwise⟩
  case bad => exact s.regWrite_bad v (slotAt_bad.2 h)
  case reset => exact (s.regWrite_ctrl v).trans (if_pos h)
  case noReset => exact (s.regWrite_ctrl v).trans (if_neg (Bool.eq_false_iff.1 h))
  case cmdRefused => exact (s.regWrite_cmd v).trans (if_pos (by simpa using h))
  case cmdIssued => exact (s.regWrite_cmd v).trans (if_neg (by simp [hb, hf]))
  case seedRefused => exact (s.regWrite_seed v).trans (if_pos hb)
  case lenRefused => exact (s.regWrite_len v).trans (if_pos hb)
  case seed => exact (s.regWrite_seed v).trans (if_neg (Bool.eq_false_iff.1 hb))
  case len => exact (s.regWrite_len v).trans (if_neg (Bool.eq_false_iff.1 hb))
  case otherwise => exact s.regWrite_otherwise v (by rw [Ne, slotAt_bad]; omega) hoff

end Sys2Proof.Machine
end

section
/-! The decoder inverts the encoder (30_encoding.md R90 to R92), which words are legal by their fields
(R93, R94), and O1 and O4. -/

namespace Sys2Proof

/-! ### The fields of a word (30_encoding.md R90) -/

theorem fieldsOf_op_toNat (word : Word) : (fieldsOf word).op.toNat = word.toNat % 256 := by
  simp [fieldsOf]

theorem fieldsOf_w (word : Word) : (fieldsOf word).w = BitVec.ofBool (word.getLsbD 8) := by
  ext k hk
  obtain rfl : k = 0 := by omega
  simp [fieldsOf]

/-- OP, W and RSV together are all 64 bits of a word. -/
theorem append_fieldsOf (word : Word) :
    (fieldsOf word).rsv ++ ((fieldsOf word).w ++ (fieldsOf word).op) = word := by
  have low : (fieldsOf word).w ++ (fieldsOf word).op = word.extractLsb' 0 9 :=
    BitVec.extractLsb'_append_extractLsb'_eq_extractLsb' rfl
  have whole : (fieldsOf word).rsv ++ word.extractLsb' 0 9 = word.extractLsb' 0 64 :=
    BitVec.extractLsb'_append_extractLsb'_eq_extractLsb' rfl
  rw [low, whole, BitVec.extractLsb'_eq_self]

theorem fieldsOf_injective : Function.Injective fieldsOf := fun v w h => by
  rw [← append_fieldsOf v, h, append_fieldsOf]

/-- A command's word has its OP, its W and RSV = 0. -/
theorem fieldsOf_encode (i : Instr) : fieldsOf (encode i) = ⟨i.op, i.w, 0⟩ := by
  cases i <;> decide

/-! ### The opcode map (30_encoding.md R92, R93) -/

/-- The map assigns OP 0x00 to 0x0A and 0x10. -/
theorem exists_opForms_iff (op : Nat) :
    (∃ forms, opForms op = some forms) ↔ op ≤ 0x0A ∨ op = 0x10 := by
  unfold opForms
  split
  case h_13 => simp only [imp_false, reduceCtorEq, exists_false, false_iff] at *; omega
  all_goals simp

/-- A listed form has the OP it is listed under and the W of its column. -/
theorem opForms_listed {op : Nat} {forms : OpForms} (h : opForms op = some forms) :
    (∀ i, forms.narrow = some i → i.op.toNat = op ∧ i.w = 0) ∧
      (∀ i, forms.wide = some i → i.op.toNat = op ∧ i.w = 1) := by
  unfold opForms at h
  split at h <;> cases h <;> simp [Instr.op, Instr.w]

/-- R93: OP 0x07 alone has no form with W = 0; OP 0x00 and 0x01 alone have none with W = 1. -/
theorem opForms_missing {op : Nat} {forms : OpForms} (h : opForms op = some forms) :
    (forms.narrow = none ↔ op = 0x07) ∧ (forms.wide = none ↔ op ≤ 0x01) := by
  unfold opForms at h
  split at h <;> cases h <;> decide

/-! ### Decoding -/

theorem decodeFields_command (i : Instr) : decodeFields ⟨i.op, i.w, 0⟩ = .instr i := by
  cases i <;> rfl

/-- The decoder answers a command when RSV is 0 and the map lists it under OP in the column of W. -/
theorem decodeFields_eq_instr_iff_listed {f : CmdFields} {i : Instr} :
    decodeFields f = .instr i ↔ f.rsv = 0 ∧ ∃ forms, opForms f.op.toNat = some forms ∧
      (if f.w = 1 then forms.wide else forms.narrow) = some i := by
  unfold decodeFields
  split
  case isTrue hrsv => exact iff_of_false nofun fun h => hrsv h.1
  case isFalse hrsv =>
    rw [and_iff_right (not_not.1 hrsv)]
    cases opForms f.op.toNat with
    | none => exact iff_of_false nofun nofun
    | some forms =>
      simp only [Option.some.injEq, exists_eq_left']
      cases (if f.w = 1 then forms.wide else forms.narrow) with
      | none => exact iff_of_false nofun nofun
      | some j => simp

/-- The fields that decode to a command are the command's own. -/
theorem decodeFields_eq_instr_iff {f : CmdFields} {i : Instr} :
    decodeFields f = .instr i ↔ f = ⟨i.op, i.w, 0⟩ := by
  refine ⟨fun h => ?_, fun h => h ▸ decodeFields_command i⟩
  obtain ⟨op, w, rsv⟩ := f
  obtain ⟨rfl, forms, hop, hform⟩ := decodeFields_eq_instr_iff_listed.1 h
  obtain ⟨hnarrow, hwide⟩ := opForms_listed hop
  have hi : i.op.toNat = op.toNat ∧ i.w = w := by
    obtain rfl | rfl := BitVec.eq_zero_or_eq_one w
    · exact hnarrow i hform
    · exact hwide i hform
  obtain ⟨hiop, rfl⟩ := hi
  rw [BitVec.eq_of_toNat_eq hiop]

/-- Decoding and encoding are inverse to each other, over all words and all commands. -/
theorem decode_eq_instr_iff {word : Word} {i : Instr} : decode word = .instr i ↔ word = encode i := by
  rw [decode, decodeFields_eq_instr_iff, ← fieldsOf_encode, fieldsOf_injective.eq_iff]

/-! ### Legal fields (30_encoding.md R94) -/

theorem CmdFields.legal_iff (f : CmdFields) :
    f.legal = true ↔ f.rsv = 0 ∧ (f.op.toNat ≤ 0x0A ∨ f.op.toNat = 0x10) ∧
      ¬ (f.op.toNat ≤ 0x01 ∧ f.w = 1) ∧ ¬ (f.op.toNat = 0x07 ∧ f.w = 0) := by
  simp [CmdFields.legal, CmdFields.rsvZero, CmdFields.opAssigned, CmdFields.widthAllowed,
    and_assoc, imp_iff_not_or]

/-- Where OP is assigned, what is left of legality is R93: the column of W holds a command. -/
theorem exists_form_iff {f : CmdFields} {forms : OpForms} (h : opForms f.op.toNat = some forms) :
    (∃ i, (if f.w = 1 then forms.wide else forms.narrow) = some i) ↔
      ¬ (f.op.toNat ≤ 0x01 ∧ f.w = 1) ∧ ¬ (f.op.toNat = 0x07 ∧ f.w = 0) := by
  obtain ⟨hnarrow, hwide⟩ := opForms_missing h
  rw [← Option.ne_none_iff_exists']
  obtain hw | hw := BitVec.eq_zero_or_eq_one f.w
  · simp [hw, hnarrow]
  · simp [hw, hwide]

/-- The well-formed fields are those the decoder answers a command for. -/
theorem exists_decodeFields_iff_legal (f : CmdFields) :
    (∃ i, decodeFields f = .instr i) ↔ f.legal = true := by
  rw [CmdFields.legal_iff, ← exists_opForms_iff]
  constructor
  · rintro ⟨i, h⟩
    obtain ⟨hrsv, forms, hop, hform⟩ := decodeFields_eq_instr_iff_listed.1 h
    exact ⟨hrsv, ⟨forms, hop⟩, (exists_form_iff hop).1 ⟨i, hform⟩⟩
  · rintro ⟨hrsv, ⟨forms, hop⟩, hwidth⟩
    obtain ⟨i, hform⟩ := (exists_form_iff hop).2 hwidth
    exact ⟨i, decodeFields_eq_instr_iff_listed.2 ⟨hrsv, forms, hop, hform⟩⟩

/-- The four conditions under which R94 makes a word illegal. -/
def IllegalByFields (word : Word) : Prop :=
  word.extractLsb' 9 55 ≠ 0 ∨
    (0x0B ≤ word.toNat % 256 ∧ word.toNat % 256 ≤ 0x0F) ∨ 0x11 ≤ word.toNat % 256 ∨
    (word.toNat % 256 ≤ 1 ∧ word.getLsbD 8 = true) ∨
    (word.toNat % 256 = 7 ∧ word.getLsbD 8 = false)

theorem legal_fieldsOf_iff (word : Word) :
    (fieldsOf word).legal = true ↔ ¬ IllegalByFields word := by
  have hrsv : (fieldsOf word).rsv = word.extractLsb' 9 55 := rfl
  rw [CmdFields.legal_iff, fieldsOf_op_toNat, fieldsOf_w, hrsv, IllegalByFields, not_or, not_not]
  refine and_congr_right fun _ => ?_
  cases word.getLsbD 8 <;> simp <;> omega

/-! ### The table of the 21 words (30_encoding.md R92) -/

/-- The commands in the table's order. -/
def allCommands : List Instr :=
  [.nop, .curReset, .laneInit32, .laneInit64, .laneStripe32, .laneStripe64, .laneConv32, .laneConv64,
   .accSeed32, .accSeed64, .accLen32, .accLen64, .tail8W64, .tail4W32, .tail4W64, .tail1W32, .tail1W64,
   .accAval32, .accAval64, .hash32, .hash64]

theorem mem_allCommands (i : Instr) : i ∈ allCommands := by
  cases i <;> decide

/-- A row of the table is the word of a command and that command. -/
theorem mem_map_encode_iff (word : Word) (i : Instr) :
    (word, i) ∈ allCommands.map (fun j => (encode j, j)) ↔ word = encode i := by
  simp [mem_allCommands, eq_comm]

/-- Settles O1: the rows written out compute to the encoder's, and the decoder inverts the encoder. -/
theorem legalWordsAreTheTable : Obligations.LegalWordsAreTheTable := fun word i =>
  decode_eq_instr_iff.trans (mem_map_encode_iff word i).symm

/-! ### The core's turn with an illegal word (30_encoding.md R94, 60_exceptions.md R222) -/

namespace Machine

theorem coreTurn_of_rejected {s : State} {why : DecodeReject} (h : decode s.pend = .rejected why) :
    coreTurn s = .next (s.afterFault 1 0 0) := by
  simp only [coreTurn, State.fetchWord, h, State.takeFault_eq, Cause.code]

theorem coreTurn_of_no_command {s : State} (h : ¬ ∃ i, decode s.pend = .instr i) :
    coreTurn s = .next (s.afterFault 1 0 0) := by
  cases hd : decode s.pend with
  | instr i => exact absurd ⟨i, hd⟩ h
  | rejected why => exact coreTurn_of_rejected hd

end Machine

/-- Settles O4: the fields, the words of commands, and the core's turn. -/
theorem illegalWordRaisesIllegalCmd : Obligations.IllegalWordRaisesIllegalCmd := by
  refine ⟨fun word => ?fields, fun word => ?words, fun s => ?turn⟩
  case fields => exact (exists_decodeFields_iff_legal _).trans (legal_fieldsOf_iff word)
  case words => exact exists_congr fun i => decode_eq_instr_iff
  case turn => exact Machine.coreTurn_of_no_command

end Sys2Proof
end

section
/-! The width-independent commands (40_cursor.md R120, R121): the words W = 1 would give them are no
commands, their steps complete in every state, and O14. -/

namespace Sys2Proof

/-- OP 0x00 and 0x01 have no form with W = 1, whatever RSV holds (30_encoding.md R93, R94). -/
theorem no_command_of_wide_widthIndependent {word : Word} (hop : word.toNat % 256 ≤ 1)
    (hw : word.getLsbD 8 = true) : ¬ ∃ i, decode word = .instr i := fun h =>
  (legal_fieldsOf_iff word).1 ((exists_decodeFields_iff_legal _).1 h)
    (.inr (.inr (.inr (.inl ⟨hop, hw⟩))))

namespace Machine

theorem exec_nop (s : State) : exec .nop s = .next s.afterCompletion :=
  (exec_primitive rfl s).trans (runPrimitive_ok rfl)

theorem exec_curReset (s : State) : exec .curReset s = .next (s.setOff 0).afterCompletion :=
  (exec_primitive rfl s).trans (runPrimitive_ok rfl)

@[simp] theorem State.remaining_afterCompletion (s : State) :
    s.afterCompletion.remaining = s.remaining := rfl

/-- With the cursor at 0 the whole message is left (10_state.md R36). -/
@[simp] theorem State.remaining_setOff_zero (s : State) : (s.setOff 0).remaining = s.len := by
  simp [State.remaining]

end Machine

/-- Settles O14: per command, its word, the forbidden word, and its step. -/
theorem nopAndCursorReset : Obligations.NopAndCursorReset := by
  refine ⟨⟨rfl, ?nopWide, Machine.exec_nop⟩, rfl, ?curResetWide,
    fun s => ⟨Machine.exec_curReset s, ?remaining⟩⟩
  case nopWide => exact no_command_of_wide_widthIndependent (by decide) (by decide)
  case curResetWide => exact no_command_of_wide_widthIndependent (by decide) (by decide)
  case remaining =>
    exact (s.setOff 0).remaining_afterCompletion.trans s.remaining_setOff_zero

end Sys2Proof
end

section
/-! The lane initialisations and convergences (41_stripe.md R142, R143, R147 to R149): the lane
arithmetic with its constants as literals, the steps that complete in every state, and O15 and O19. -/

namespace Sys2Proof

namespace Machine

/-! ### The lane arithmetic in literals (R142, R143, R147 to R149) -/

theorem initLanes32_eq (seed : Word32) :
    initLanes32 seed =
      ⟨seed + 0x9E3779B1#32 + 0x85EBCA77#32, seed + 0x85EBCA77#32, seed, seed - 0x9E3779B1#32⟩ := by
  rw [initLanes32, P1_32, P2_32]

theorem initLanes64_eq (seed : Word) :
    initLanes64 seed =
      ⟨seed + 0x9E3779B185EBCA87#64 + 0xC2B2AE3D27D4EB4F#64, seed + 0xC2B2AE3D27D4EB4F#64, seed,
        seed - 0x9E3779B185EBCA87#64⟩ := by
  rw [initLanes64, P1_64, P2_64]

theorem converge32_eq (l : Lanes Word32) :
    converge32 l =
      l.l1.rotateLeft 1 + l.l2.rotateLeft 7 + l.l3.rotateLeft 12 + l.l4.rotateLeft 18 := by
  simp only [converge32, rotl32_eq_rotateLeft, Nat.reduceLT]

theorem merge64_eq (acc l : Word) :
    merge64 acc l =
      (acc ^^^ ((l * 0xC2B2AE3D27D4EB4F#64).rotateLeft 31 * 0x9E3779B185EBCA87#64)) *
        0x9E3779B185EBCA87#64 + 0x85EBCA77C2B2AE63#64 := by
  rw [merge64, round64_zero, P1_64, P4_64]

/-- The merges run over the lanes in their order, from the rotate-sum on (R148, R149). -/
theorem converge64_eq_foldl (l : Lanes Word) :
    converge64 l = [l.l1, l.l2, l.l3, l.l4].foldl merge64
      (l.l1.rotateLeft 1 + l.l2.rotateLeft 7 + l.l3.rotateLeft 12 + l.l4.rotateLeft 18) := by
  simp only [converge64, rotl64_eq_rotateLeft, Nat.reduceLT, List.foldl]

/-! ### The steps -/

theorem exec_laneInit32 (s : State) :
    exec .laneInit32 s = .next (s.setLanes32 (initLanes32 s.seed32)).afterCompletion :=
  (exec_primitive rfl s).trans (runPrimitive_ok rfl)

theorem exec_laneInit64 (s : State) :
    exec .laneInit64 s = .next (s.setLanes (initLanes64 s.seed)).afterCompletion :=
  (exec_primitive rfl s).trans (runPrimitive_ok rfl)

theorem exec_laneConv32 (s : State) :
    exec .laneConv32 s = .next (s.setAcc32 (converge32 s.lanes32)).afterCompletion :=
  (exec_primitive rfl s).trans (runPrimitive_ok rfl)

theorem exec_laneConv64 (s : State) :
    exec .laneConv64 s = .next (s.setAcc (converge64 s.lanes)).afterCompletion :=
  (exec_primitive rfl s).trans (runPrimitive_ok rfl)

end Machine

/-- Settles O15: per width, the command's word and its step with the initial lanes in literals. -/
theorem laneInitFromSeed : Obligations.LaneInitFromSeed := by
  refine ⟨⟨rfl, fun s => ?width32⟩, rfl, fun s => ?width64⟩
  case width32 =>
    rw [Machine.exec_laneInit32, Machine.initLanes32_eq]
    rfl
  case width64 =>
    rw [Machine.exec_laneInit64, Machine.initLanes64_eq]
    rfl

/-- Settles O19: per width, the command's word and its step; a function of the merge's form is the
model's merge. -/
theorem laneConvergence : Obligations.LaneConvergence := by
  refine ⟨⟨rfl, fun s => ?width32⟩, rfl, fun s merge hmerge => ?width64⟩
  case width32 =>
    rw [Machine.exec_laneConv32, Machine.converge32_eq]
    rfl
  case width64 =>
    obtain rfl : merge = Machine.merge64 :=
      funext₂ fun acc l => (hmerge acc l).trans (Machine.merge64_eq acc l).symm
    rw [Machine.exec_laneConv64, Machine.converge64_eq_foldl]
    rfl

end Sys2Proof
end

section
/-! The accumulator's initialisation and length fold-in (42_tail.md R160 to R163): the 32-bit sum of
two registers' low halves as a number, the steps that complete in every state, and O20 and O21. -/

namespace Sys2Proof

namespace Machine

/-- Of two registers added on 32 bits, only the sum modulo 2^32 remains (42_tail.md R162). -/
theorem zext64_lo32_add_lo32 (x y : Word) :
    zext64 (lo32 x + lo32 y) = BitVec.ofNat 64 ((x.toNat + y.toNat) % 2 ^ 32) := by
  apply BitVec.eq_of_toNat_eq
  simp only [zext64, lo32, BitVec.toNat_setWidth, BitVec.toNat_add, BitVec.toNat_ofNat,
    ← Nat.add_mod]

/-! ### The steps -/

theorem exec_accSeed32 (s : State) :
    exec .accSeed32 s = .next (s.setAcc32 (s.seed32 + P5_32)).afterCompletion :=
  (exec_primitive rfl s).trans (runPrimitive_ok rfl)

theorem exec_accSeed64 (s : State) :
    exec .accSeed64 s = .next (s.setAcc (s.seed + P5_64)).afterCompletion :=
  (exec_primitive rfl s).trans (runPrimitive_ok rfl)

theorem exec_accLen32 (s : State) :
    exec .accLen32 s = .next (s.setAcc32 (s.acc32 + s.len32)).afterCompletion :=
  (exec_primitive rfl s).trans (runPrimitive_ok rfl)

theorem exec_accLen64 (s : State) :
    exec .accLen64 s = .next (s.setAcc (s.acc + s.len)).afterCompletion :=
  (exec_primitive rfl s).trans (runPrimitive_ok rfl)

/-- R162 on the register: ACC takes the sum of ACC and LEN modulo 2^32. -/
theorem State.setAcc32_acc32_add_len32 (s : State) :
    s.setAcc32 (s.acc32 + s.len32) =
      s.setAcc (BitVec.ofNat 64 ((s.acc.toNat + s.len.toNat) % 2 ^ 32)) :=
  congrArg s.setAcc (zext64_lo32_add_lo32 s.acc s.len)

end Machine

/-- Settles O20: per width, the command's word and its step with P5 in literals. -/
theorem accSeedAddsP5 : Obligations.AccSeedAddsP5 := by
  refine ⟨⟨rfl, fun s => ?width32⟩, rfl, fun s => ?width64⟩
  case width32 =>
    rw [Machine.exec_accSeed32, Machine.P5_32]
    rfl
  case width64 =>
    rw [Machine.exec_accSeed64, Machine.P5_64]
    rfl

/-- Settles O21: per width, the command's word and its step; on 32 bits the sum is the one modulo
2^32. -/
theorem accLenFoldsTheLength : Obligations.AccLenFoldsTheLength := by
  refine ⟨⟨rfl, fun s => ?width32⟩, rfl, Machine.exec_accLen64⟩
  case width32 =>
    rw [Machine.exec_accLen32, Machine.State.setAcc32_acc32_add_len32]
    rfl

end Sys2Proof
end

section
/-! The avalanche and the finalize commands (43_finalize.md R190 to R194): the five steps of each width
with their constants as literals, the consumption check, the two ends of each command, and O24. -/

namespace Sys2Proof

namespace Machine

/-! ### The avalanche in literals (R190, R191) -/

theorem aval32_of_steps {a0 a1 a2 a3 a4 a5 : Word32} (h1 : a1 = a0 ^^^ (a0 >>> 15))
    (h2 : a2 = a1 * 0x85EBCA77#32) (h3 : a3 = a2 ^^^ (a2 >>> 13)) (h4 : a4 = a3 * 0xC2B2AE3D#32)
    (h5 : a5 = a4 ^^^ (a4 >>> 16)) : aval32 a0 = a5 := by
  rw [aval32, P2_32, P3_32, h5, h4, h3, h2, h1]

theorem aval64_of_steps {a0 a1 a2 a3 a4 a5 : Word} (h1 : a1 = a0 ^^^ (a0 >>> 33))
    (h2 : a2 = a1 * 0xC2B2AE3D27D4EB4F#64) (h3 : a3 = a2 ^^^ (a2 >>> 29))
    (h4 : a4 = a3 * 0x165667B19E3779F9#64) (h5 : a5 = a4 ^^^ (a4 >>> 32)) : aval64 a0 = a5 := by
  rw [aval64, P2_64, P3_64, h5, h4, h3, h2, h1]

/-! ### The consumption check (R194) -/

theorem State.consumedCheck_of_unread {s : State} (h : s.remaining ≠ 0) :
    s.consumedCheck = some ⟨.unconsumed, s.off, s.remaining⟩ := if_pos h

theorem State.consumedCheck_of_consumed {s : State} (h : s.remaining = 0) :
    s.consumedCheck = none := if_neg (not_not_intro h)

/-! ### The bodies and the steps (R192, R193) -/

theorem bodyAccAval32_error {s : State} {r : Raise} (h : s.consumedCheck = some r) :
    bodyAccAval32 s = .error r := by
  simp only [bodyAccAval32, h]

theorem bodyAccAval64_error {s : State} {r : Raise} (h : s.consumedCheck = some r) :
    bodyAccAval64 s = .error r := by
  simp only [bodyAccAval64, h]

theorem bodyAccAval32_ok {s : State} (h : s.consumedCheck = none) :
    bodyAccAval32 s = .ok ((s.setAcc32 (aval32 s.acc32)).setDigest32 (aval32 s.acc32)) := by
  simp only [bodyAccAval32, h]

theorem bodyAccAval64_ok {s : State} (h : s.consumedCheck = none) :
    bodyAccAval64 s = .ok ((s.setAcc (aval64 s.acc)).setDigest (aval64 s.acc)) := by
  simp only [bodyAccAval64, h]

/-- Either finalize command faults while bytes of the message remain unread. -/
theorem exec_accAval_of_unread {s : State} {i : Instr} (hi : i = .accAval32 ∨ i = .accAval64)
    (h : s.remaining ≠ 0) : exec i s = .next (s.afterFault 5 s.off s.remaining) := by
  have hcheck := State.consumedCheck_of_unread h
  obtain rfl | rfl := hi
  · exact (exec_primitive rfl s).trans (runPrimitive_error (bodyAccAval32_error hcheck))
  · exact (exec_primitive rfl s).trans (runPrimitive_error (bodyAccAval64_error hcheck))

theorem exec_accAval32_of_consumed {s : State} (h : s.remaining = 0) :
    exec .accAval32 s =
      .next ((s.setAcc32 (aval32 s.acc32)).setDigest32 (aval32 s.acc32)).afterCompletion :=
  (exec_primitive rfl s).trans
    (runPrimitive_ok (bodyAccAval32_ok (State.consumedCheck_of_consumed h)))

theorem exec_accAval64_of_consumed {s : State} (h : s.remaining = 0) :
    exec .accAval64 s = .next ((s.setAcc (aval64 s.acc)).setDigest (aval64 s.acc)).afterCompletion :=
  (exec_primitive rfl s).trans
    (runPrimitive_ok (bodyAccAval64_ok (State.consumedCheck_of_consumed h)))

end Machine

/-- Settles O24: the two words, the fault while bytes are left, and per width the completion with the
avalanche in its five steps. -/
theorem avalancheOrUnconsumed : Obligations.AvalancheOrUnconsumed := by
  refine ⟨⟨rfl, rfl⟩, fun s i => Machine.exec_accAval_of_unread, ?width32, ?width64⟩
  case width32 =>
    intro s a0 a1 a2 a3 a4 a5 hleft h0 h1 h2 h3 h4 h5
    have hacc : s.acc32 = a0 := h0.symm
    rw [Machine.exec_accAval32_of_consumed hleft, hacc, Machine.aval32_of_steps h1 h2 h3 h4 h5]
    rfl
  case width64 =>
    intro s a1 a2 a3 a4 a5 hleft h1 h2 h3 h4 h5
    rw [Machine.exec_accAval64_of_consumed hleft, Machine.aval64_of_steps h1 h2 h3 h4 h5]
    rfl

end Sys2Proof
end

section
/-! Fault entry (60_exceptions.md R221, R227): the table of causes and codes, and O9. -/

namespace Sys2Proof

namespace Machine

/-- The five rows of R221 are the graph of `Cause.code`: each cause has its one code. -/
theorem Cause.mem_table_iff_code_eq (c : Cause) (code : BitVec 4) :
    (c, code) ∈ ([(.illegalCmd, 1), (.cursorOverrun, 2), (.msgRange, 3), (.lenRange, 4),
      (.unconsumed, 5)] : List (Cause × BitVec 4)) ↔ c.code = code := by
  cases c <;> simp [Cause.code, eq_comm]

end Machine

/-- Settles O9: the row of the table fixes the code, and fault entry writes the state with that code. -/
theorem faultEntryWritesTheRecord : Obligations.FaultEntryWritesTheRecord := by
  intro s o n c code hrow
  obtain rfl : c.code = code := (Machine.Cause.mem_table_iff_code_eq c code).1 hrow
  exact s.takeFault_eq c o n

end Sys2Proof
end

section
/-! The decoder and the encoder in both directions (30_encoding.md R90 to R94): O2 and O3. -/

namespace Sys2Proof

/-- Settles O2. -/
theorem decodeInvertsEncode : Obligations.DecodeInvertsEncode := fun _ _ => decode_eq_instr_iff

/-- Settles O3: six rows of the table and one word for each reason to reject. -/
theorem writtenOutWordsDecode : Obligations.WrittenOutWordsDecode := by
  unfold Obligations.WrittenOutWordsDecode
  decide

end Sys2Proof
end

section
/-! Reads of the message and of the byte cursor (20_memory.md R66, 40_cursor.md R117, R118): a read cut
in two, the two reads by the outcome of their check, and O10 to O13. -/

namespace Sys2Proof.Machine

/-! ### MemRead cut in two -/

@[simp] theorem State.memRead_one (s : State) (a draw : Nat) :
    s.memRead a draw 1 = (s.byteAt a draw).toNat := by
  simp [State.memRead]

/-- A read of `m + n` bytes is a read of `m` and, above it, a read of `n`. -/
theorem State.memRead_add (s : State) (a draw m n : Nat) :
    s.memRead a draw (m + n) =
      s.memRead a draw m + 256 ^ m * s.memRead (a + m) (draw + m) n := by
  induction m generalizing a draw with
  | zero => simp [State.memRead]
  | succ m ih =>
    rw [Nat.succ_add, State.memRead, ih, State.memRead, Nat.add_right_comm a, Nat.add_right_comm draw]
    ring_nf

/-- Settles O12, by induction on the number of bytes: one byte more is the highest one. -/
theorem memReadIsLittleEndian : Obligations.MemReadIsLittleEndian := by
  intro s a draw n
  induction n with
  | zero => rfl
  | succ n ih =>
    rw [Finset.sum_range_succ, State.memRead_add, ih, State.memRead_one, pow_mul, mul_comm,
      show 2 ^ 8 = 256 from rfl]

/-- Settles O13: an eight-byte read cut in its middle, and a four-byte read cut into bytes. -/
theorem mixedWidthReadsAgree : Obligations.MixedWidthReadsAgree := by
  refine fun s a draw => ⟨?halves, ?bytes⟩
  case halves =>
    rw [s.memRead_add a draw 4 4]
    omega
  case bytes => simpa using memReadIsLittleEndian s a draw 4

/-! ### The cursor's advance (40_cursor.md R116) -/

/-- OFF does not wrap where the bytes read lie within LEN. -/
theorem State.advance_off_toNat {s : State} {n : Nat} (h : s.off.toNat + n ≤ s.len.toNat) :
    (s.advance n).off.toNat = s.off.toNat + n := by
  have hlen := s.len.isLt
  rw [State.advance_off, BitVec.toNat_add, BitVec.toNat_ofNat, Nat.add_mod_mod, Nat.mod_eq_of_lt]
  omega

theorem State.advance_advance (s : State) (m n : Nat) :
    (s.advance m).advance n = s.advance (m + n) := by
  have hoff : s.off + BitVec.ofNat 64 m + BitVec.ofNat 64 n = s.off + BitVec.ofNat 64 (m + n) := by
    rw [BitVec.add_assoc, BitVec.ofNat_add]
  simp only [State.advance, State.setOff, State.setDraws, hoff, Nat.add_assoc]

/-! ### The two reads by the outcome of the check -/

theorem State.readCheck_none_of_le {s : State} {n : Nat} (hlen : s.off.toNat + n ≤ s.len.toNat)
    (hsize : s.off.toNat + n ≤ s.msgSize) : s.readCheck n = none := by
  rw [State.readCheck_none_iff, State.remaining_toNat (by omega)]
  omega

theorem State.curRead_of_check_some {s : State} {n : Nat} {r : Raise} (h : s.readCheck n = some r) :
    s.curRead n = .error r := by
  simp only [State.curRead, h]

theorem State.curRead_of_check_none {s : State} {n : Nat} (h : s.readCheck n = none) :
    s.curRead n = .ok (s.memRead s.off.toNat s.draws n, s.advance n) := by
  simp only [State.curRead, h]

theorem State.curReadStripe_of_check_none {s : State} {k : Nat} (h : s.readCheck (4 * k) = none) :
    s.curReadStripe k = .ok
      (⟨s.memRead s.off.toNat s.draws k, s.memRead (s.off.toNat + k) (s.draws + k) k,
        s.memRead (s.off.toNat + 2 * k) (s.draws + 2 * k) k,
        s.memRead (s.off.toNat + 3 * k) (s.draws + 3 * k) k⟩, s.advance (4 * k)) := by
  simp only [State.curReadStripe, h, Nat.zero_mul, Nat.add_zero, Nat.one_mul]

/-- Settles O10: the two checks in order, and a read that passes both. -/
theorem cursorReadChecksThenAdvances : Obligations.CursorReadChecksThenAdvances := by
  refine fun s n _ => ⟨fun h => ?overrun, fun h1 h2 => ?range, fun h1 h2 => ?value,
    fun h1 h2 => ?within⟩
  case overrun => exact State.curRead_of_check_some (State.readCheck_overrun h)
  case range => exact State.curRead_of_check_some (State.readCheck_range h1 h2)
  case value => exact State.curRead_of_check_none (State.readCheck_none_iff.2 ⟨h1, h2⟩)
  case within =>
    have hleft := State.remaining_toNat h1
    rw [State.remaining] at hleft
    omega

/-- A read that comes `i` bytes after the cursor, all of it within LEN and MSG. -/
theorem State.curRead_advance {s : State} {i n : Nat} (hlen : s.off.toNat + (i + n) ≤ s.len.toNat)
    (hsize : s.off.toNat + (i + n) ≤ s.msgSize) :
    (s.advance i).curRead n =
      .ok (s.memRead (s.off.toNat + i) (s.draws + i) n, s.advance (i + n)) := by
  have hoff : (s.advance i).off.toNat = s.off.toNat + i := State.advance_off_toNat (by omega)
  have hcheck : (s.advance i).readCheck n = none :=
    State.readCheck_none_of_le (by rw [hoff, State.advance_len]; omega)
      (by rw [hoff, State.advance_msgSize]; omega)
  rw [State.curRead_of_check_none hcheck, hoff, State.advance_advance,
    State.memRead_congr (s.advance_msg i), State.advance_draws]

/-- Settles O11: the four reads are those at 0, 1, 2 and 3 slots after the cursor. -/
theorem stripeReadIsFourReads : Obligations.StripeReadIsFourReads := by
  intro s k _ hlen hsize
  have first : s.curRead k = .ok (s.memRead s.off.toNat s.draws k, s.advance k) :=
    State.curRead_of_check_none (State.readCheck_none_of_le (by omega) (by omega))
  have second := State.curRead_advance (s := s) (i := k) (n := k) (by omega) (by omega)
  have third := State.curRead_advance (s := s) (i := k + k) (n := k) (by omega) (by omega)
  have fourth := State.curRead_advance (s := s) (i := k + k + k) (n := k) (by omega) (by omega)
  refine ⟨_, _, _, _, _, _, _, _, first, second, third, fourth, ?_⟩
  rw [State.curReadStripe_of_check_none (State.readCheck_none_of_le hlen hsize),
    show 4 * k = k + k + k + k by omega, show 3 * k = k + k + k by omega, Nat.two_mul]

end Sys2Proof.Machine
end

section
/-! Every primitive is one check and one effect (40_cursor.md R114, R115, R117; 43_finalize.md R194):
what raises, what is written, which command writes which register, and O8, O18 and O34. -/

namespace Sys2Proof.Machine

/-- The bytes a primitive reads at the cursor (41_stripe.md R144, R145; 42_tail.md R164 to R168). -/
def bytesRead : Instr → Nat
  | .laneStripe32 => 16
  | .laneStripe64 => 32
  | .tail8W64 => 8
  | .tail4W32 => 4
  | .tail4W64 => 4
  | .tail1W32 => 1
  | .tail1W64 => 1
  | _ => 0

/-- What a primitive checks before it writes anything. -/
def primitiveCheck (i : Instr) (s : State) : Option Raise :=
  match i with
  | .accAval32 => s.consumedCheck
  | .accAval64 => s.consumedCheck
  | i => if bytesRead i = 0 then none else s.readCheck (bytesRead i)

/-- The `k`-byte slots of the stripe at the cursor, slot 1 at the lowest address (40_cursor.md R118). -/
def State.slots (s : State) (k : Nat) : Lanes Nat :=
  ⟨s.memRead s.off.toNat s.draws k, s.memRead (s.off.toNat + k) (s.draws + k) k,
    s.memRead (s.off.toNat + 2 * k) (s.draws + 2 * k) k,
    s.memRead (s.off.toNat + 3 * k) (s.draws + 3 * k) k⟩

/-- The `n` bytes at the cursor (40_cursor.md R117). -/
def State.atCursor (s : State) (n : Nat) : Nat := s.memRead s.off.toNat s.draws n

/-- The lanes a primitive leaves (41_stripe.md R142 to R145). -/
def lanesAfter (i : Instr) (s : State) : Lanes Word :=
  match i with
  | .laneInit32 => (initLanes32 s.seed32).map zext64
  | .laneInit64 => initLanes64 s.seed
  | .laneStripe32 =>
    (Lanes.zipWith round32 s.lanes32 ((s.slots 4).map (BitVec.ofNat 32))).map zext64
  | .laneStripe64 => Lanes.zipWith round64 s.lanes ((s.slots 8).map (BitVec.ofNat 64))
  | _ => s.lanes

/-- The accumulator a primitive leaves (41_stripe.md R147, R148; 42_tail.md R160 to R168; 43_finalize.md
R192, R193). -/
def accAfter (i : Instr) (s : State) : Word :=
  match i with
  | .laneConv32 => zext64 (converge32 s.lanes32)
  | .laneConv64 => converge64 s.lanes
  | .accSeed32 => zext64 (s.seed32 + P5_32)
  | .accSeed64 => s.seed + P5_64
  | .accLen32 => zext64 (s.acc32 + s.len32)
  | .accLen64 => s.acc + s.len
  | .tail8W64 => fold8W64 s.acc (BitVec.ofNat 64 (s.atCursor 8))
  | .tail4W32 => zext64 (fold4W32 s.acc32 (BitVec.ofNat 32 (s.atCursor 4)))
  | .tail4W64 => fold4W64 s.acc (BitVec.ofNat 64 (s.atCursor 4))
  | .tail1W32 => zext64 (fold1W32 s.acc32 (BitVec.ofNat 32 (s.atCursor 1)))
  | .tail1W64 => fold1W64 s.acc (BitVec.ofNat 64 (s.atCursor 1))
  | .accAval32 => zext64 (aval32 s.acc32)
  | .accAval64 => aval64 s.acc
  | _ => s.acc

/-- OFF after a primitive: 0, or past the bytes read (40_cursor.md R116, R121). -/
def offAfter (i : Instr) (s : State) : Word :=
  if i = .curReset then 0
  else if bytesRead i = 0 then s.off else s.off + BitVec.ofNat 64 (bytesRead i)

/-- The digest a primitive leaves (R192, R193). -/
def digestAfter (i : Instr) (s : State) : Word :=
  match i with
  | .accAval32 => zext64 (aval32 s.acc32)
  | .accAval64 => aval64 s.acc
  | _ => s.digest

/-- What a primitive writes where its check passes; each byte read was one draw. -/
def primitiveEffect (i : Instr) (s : State) : State :=
  { s with
    lanes := lanesAfter i s, acc := accAfter i s, off := offAfter i s, digest := digestAfter i s
    draws := s.draws + bytesRead i }

@[simp] theorem primitiveEffect_lanes (i : Instr) (s : State) :
    (primitiveEffect i s).lanes = lanesAfter i s := rfl
@[simp] theorem primitiveEffect_acc (i : Instr) (s : State) :
    (primitiveEffect i s).acc = accAfter i s := rfl
@[simp] theorem primitiveEffect_off (i : Instr) (s : State) :
    (primitiveEffect i s).off = offAfter i s := rfl
@[simp] theorem primitiveEffect_digest (i : Instr) (s : State) :
    (primitiveEffect i s).digest = digestAfter i s := rfl
@[simp] theorem primitiveEffect_seed (i : Instr) (s : State) :
    (primitiveEffect i s).seed = s.seed := rfl
@[simp] theorem primitiveEffect_len (i : Instr) (s : State) :
    (primitiveEffect i s).len = s.len := rfl
@[simp] theorem primitiveEffect_status (i : Instr) (s : State) :
    (primitiveEffect i s).status = s.status := rfl

theorem primitiveEffect_datapath (i : Instr) (s : State) : s.DatapathOnly (primitiveEffect i s) :=
  ⟨lanesAfter i s, accAfter i s, offAfter i s, digestAfter i s, s.draws + bytesRead i, rfl⟩

/-! ### The bodies -/

theorem primitiveBody_of_check_some {i : Instr} {s : State} {r : Raise}
    (h : primitiveCheck i s = some r) : primitiveBody i s = .error r := by
  cases i
  case laneStripe32 => exact bodyLaneStripe32_error h
  case laneStripe64 => exact bodyLaneStripe64_error h
  case tail8W64 | tail4W64 | tail1W64 => exact tailBody64_error h
  case tail4W32 | tail1W32 => exact tailBody32_error h
  case accAval32 => exact bodyAccAval32_error h
  case accAval64 => exact bodyAccAval64_error h
  all_goals cases h

/-! Two updates as one record. The values written stay variables here, so that no later proof compares
a register with the value written to it. -/

theorem State.setLanes_advance (s : State) (n : Nat) (v : Lanes Word) :
    (s.advance n).setLanes v =
      { s with lanes := v, off := s.off + BitVec.ofNat 64 n, draws := s.draws + n } := rfl

theorem State.setDigest_setAcc (s : State) (a d : Word) :
    (s.setAcc a).setDigest d = { s with acc := a, digest := d } := rfl

theorem tailBody32_eq {n : Nat} (fold : Word32 → Word32 → Word32) {s : State}
    (h : s.readCheck n = none) :
    tailBody32 n fold s = .ok { s with
      acc := zext64 (fold s.acc32 (BitVec.ofNat 32 (s.atCursor n)))
      off := s.off + BitVec.ofNat 64 n, draws := s.draws + n } :=
  tailBody32_ok h

theorem tailBody64_eq {n : Nat} (fold : Word → Word → Word) {s : State}
    (h : s.readCheck n = none) :
    tailBody64 n fold s = .ok { s with
      acc := fold s.acc (BitVec.ofNat 64 (s.atCursor n))
      off := s.off + BitVec.ofNat 64 n, draws := s.draws + n } :=
  tailBody64_ok h

theorem primitiveBody_of_check_none {i : Instr} {s : State} (h : primitiveCheck i s = none) :
    primitiveBody i s = .ok (primitiveEffect i s) := by
  cases i
  case laneStripe32 =>
    rw [primitiveBody, bodyLaneStripe32_ok h, State.setLanes32, State.setLanes_advance]
    rfl
  case laneStripe64 =>
    rw [primitiveBody, bodyLaneStripe64_ok h, State.setLanes_advance]
    rfl
  case tail8W64 => exact tailBody64_eq fold8W64 h
  case tail4W64 => exact tailBody64_eq fold4W64 h
  case tail1W64 => exact tailBody64_eq fold1W64 h
  case tail4W32 => exact tailBody32_eq fold4W32 h
  case tail1W32 => exact tailBody32_eq fold1W32 h
  case accAval32 =>
    rw [primitiveBody, bodyAccAval32_ok h, State.setDigest32, State.setAcc32, State.setDigest_setAcc]
    rfl
  case accAval64 =>
    rw [primitiveBody, bodyAccAval64_ok h, State.setDigest_setAcc]
    rfl
  all_goals rfl

theorem primitiveCheck_raises {i : Instr} {s : State} {r : Raise} (h : primitiveCheck i s = some r) :
    s.Raises r :=
  primitiveBody_raises (primitiveBody_of_check_some h)

theorem primitiveCheck_of_reads {i : Instr} (h : bytesRead i ≠ 0) (s : State) :
    primitiveCheck i s = s.readCheck (bytesRead i) := by
  cases i
  case laneStripe32 | laneStripe64 | tail8W64 | tail4W32 | tail4W64 | tail1W32 | tail1W64 => rfl
  all_goals exact absurd rfl h

/-! ### The steps -/

section
variable {i : Instr} {s t : State} (hi : isHash i = false)
include hi

theorem exec_of_check_some {r : Raise} (h : primitiveCheck i s = some r) :
    exec i s = .next (s.takeFault r) := by
  rw [exec_primitive hi, runPrimitive, primitiveBody_of_check_some h]

theorem exec_of_check_none (h : primitiveCheck i s = none) :
    exec i s = .next (primitiveEffect i s).complete := by
  rw [exec_primitive hi, runPrimitive, primitiveBody_of_check_none h]

/-- All a primitive can do: its effect and completion, or a fault of R221 that writes nothing else. -/
theorem exec_primitive_cases (h : exec i s = .next t) :
    (primitiveCheck i s = none ∧ t = (primitiveEffect i s).complete) ∨
      ∃ r, s.Raises r ∧ t = s.takeFault r := by
  cases hc : primitiveCheck i s with
  | none =>
    rw [exec_of_check_none hi hc] at h
    cases h
    exact .inl ⟨rfl, rfl⟩
  | some r =>
    rw [exec_of_check_some hi hc] at h
    cases h
    exact .inr ⟨r, primitiveCheck_raises hc, rfl⟩

end

/-! ### Which primitive writes which register (10_state.md R21 to R26) -/

section
variable {i : Instr}

theorem lanesAfter_kept (h : i ∉ [Instr.laneInit32, .laneInit64, .laneStripe32, .laneStripe64])
    (s : State) : lanesAfter i s = s.lanes := by
  cases i
  case laneInit32 | laneInit64 | laneStripe32 | laneStripe64 => exact absurd (by decide) h
  all_goals rfl

theorem accAfter_kept
    (h : i ∉ [Instr.laneConv32, .laneConv64, .accSeed32, .accSeed64, .accLen32, .accLen64, .tail8W64,
      .tail4W32, .tail4W64, .tail1W32, .tail1W64, .accAval32, .accAval64]) (s : State) :
    accAfter i s = s.acc := by
  cases i
  case nop | curReset | laneInit32 | laneInit64 | laneStripe32 | laneStripe64 | hash32 | hash64 => rfl
  all_goals exact absurd (by decide) h

theorem offAfter_kept
    (h : i ∉ [Instr.curReset, .laneStripe32, .laneStripe64, .tail8W64, .tail4W32, .tail4W64,
      .tail1W32, .tail1W64]) (s : State) : offAfter i s = s.off := by
  cases i
  case curReset | laneStripe32 | laneStripe64 | tail8W64 | tail4W32 | tail4W64 | tail1W32 |
    tail1W64 => exact absurd (by decide) h
  all_goals rfl

theorem digestAfter_kept (h : i ∉ [Instr.accAval32, .accAval64]) (s : State) :
    digestAfter i s = s.digest := by
  cases i
  case accAval32 | accAval64 => exact absurd (by decide) h
  all_goals rfl

end

/-- A raise of a primitive has one of the codes 2, 3 and 5 (60_exceptions.md R221). -/
theorem State.Raises.code_mem {s : State} {r : Raise} (h : s.Raises r) :
    r.cause.code ∈ ([2, 3, 5] : List (BitVec 4)) := by
  obtain ⟨n, -, ⟨-, rfl⟩ | ⟨-, -, rfl⟩⟩ | ⟨-, rfl⟩ := h <;> simp [Cause.code]

end Sys2Proof.Machine

namespace Sys2Proof

open Machine

/-- Settles O18. -/
theorem laneImplIsNotObservable : Obligations.LaneImplIsNotObservable := fun impl _ _ _ =>
  ⟨laneRounds_eq impl round32 _ _, laneRounds_eq impl round64 _ _⟩

/-- Settles O34: a completed primitive wrote what its effect writes, a faulted one none of the four. -/
theorem registersWrittenOnlyByTheirCommands : Obligations.RegistersWrittenOnlyByTheirCommands := by
  intro i s t hi h
  obtain ⟨-, rfl⟩ | ⟨r, -, rfl⟩ := exec_primitive_cases hi h
  · exact ⟨fun h => lanesAfter_kept h s, fun h => accAfter_kept h s, fun h => offAfter_kept h s,
      fun h => digestAfter_kept h s⟩
  · exact ⟨fun _ => rfl, fun _ => rfl, fun _ => rfl, fun _ => rfl⟩

/-- Settles O8: completion or fault entry, the two ends of a primitive. -/
theorem primitivesEndInOneStep : Obligations.PrimitivesEndInOneStep := by
  intro i s t hi h
  obtain ⟨-, rfl⟩ | ⟨r, hr, rfl⟩ := exec_primitive_cases hi h
  case inl =>
    obtain ⟨_, _, _, _, _, heffect⟩ := primitiveEffect_datapath i s
    rw [heffect]
    exact ⟨rfl, rfl, rfl, .inl ⟨rfl, rfl, rfl, rfl, rfl, rfl⟩⟩
  case inr =>
    have hcode : ∀ c ∈ ([2, 3, 5] : List (BitVec 4)), 2 ≤ c.toNat ∧ c.toNat ≤ 5 := by decide
    exact ⟨rfl, rfl, rfl, .inr ⟨rfl, rfl, rfl, hcode _ hr.code_mem⟩⟩

end Sys2Proof
end

section
/-! The commands that read at the cursor (41_stripe.md section 3, 42_tail.md section 3): the two faults
and the completion of each, the folds with their constants as literals, and O16, O17, O22 and O23. -/

namespace Sys2Proof

namespace Machine

/-! ### The three ends of a reading command (40_cursor.md R117, R118) -/

section
variable {i : Instr} {n : Nat} (hi : isHash i = false) (hn : bytesRead i = n) (hpos : n ≠ 0) {s : State}
include hi hn hpos

theorem exec_of_overrun (h : s.remaining.toNat < n) :
    exec i s = .next (s.afterFault 2 s.off (BitVec.ofNat 64 n)) := by
  subst hn
  exact exec_of_check_some hi ((primitiveCheck_of_reads hpos s).trans (State.readCheck_overrun h))

theorem exec_of_range (h1 : n ≤ s.remaining.toNat) (h2 : s.msgSize < s.off.toNat + n) :
    exec i s = .next (s.afterFault 3 s.off (BitVec.ofNat 64 n)) := by
  subst hn
  exact exec_of_check_some hi ((primitiveCheck_of_reads hpos s).trans (State.readCheck_range h1 h2))

theorem exec_of_fits (h1 : n ≤ s.remaining.toNat) (h2 : s.off.toNat + n ≤ s.msgSize) :
    exec i s = .next (primitiveEffect i s).afterCompletion := by
  subst hn
  exact exec_of_check_none hi
    ((primitiveCheck_of_reads hpos s).trans (State.readCheck_none_iff.2 ⟨h1, h2⟩))

end

theorem State.acc32_eq (s : State) : s.acc32 = s.acc.setWidth 32 := rfl

/-! ### The folds in literals (R164 to R168) -/

theorem fold8W64_eq (acc v : Word) :
    fold8W64 acc v =
      (acc ^^^ ((v * 0xC2B2AE3D27D4EB4F#64).rotateLeft 31 * 0x9E3779B185EBCA87#64)).rotateLeft 27 *
        0x9E3779B185EBCA87#64 + 0x85EBCA77C2B2AE63#64 := by
  rw [fold8W64, round64_zero, rotl64_eq_rotateLeft _ _ (by decide), P1_64, P4_64]

theorem fold4W64_eq (acc v : Word) :
    fold4W64 acc v =
      (acc ^^^ (v * 0x9E3779B185EBCA87#64)).rotateLeft 23 *
        0xC2B2AE3D27D4EB4F#64 + 0x165667B19E3779F9#64 := by
  rw [fold4W64, rotl64_eq_rotateLeft _ _ (by decide), P1_64, P2_64, P3_64]

theorem fold1W64_eq (acc v : Word) :
    fold1W64 acc v =
      (acc ^^^ (v * 0x27D4EB2F165667C5#64)).rotateLeft 11 * 0x9E3779B185EBCA87#64 := by
  rw [fold1W64, rotl64_eq_rotateLeft _ _ (by decide), P1_64, P5_64]

theorem fold4W32_eq (acc v : Word32) :
    fold4W32 acc v = (acc + v * 0xC2B2AE3D#32).rotateLeft 17 * 0x27D4EB2F#32 := by
  rw [fold4W32, rotl32_eq_rotateLeft _ _ (by decide), P3_32, P4_32]

theorem fold1W32_eq (acc v : Word32) :
    fold1W32 acc v = (acc + v * 0x165667B1#32).rotateLeft 11 * 0x9E3779B1#32 := by
  rw [fold1W32, rotl32_eq_rotateLeft _ _ (by decide), P1_32, P5_32]

end Machine

open Machine

/-- Settles O16: the three ends, and the four rounds in literals. -/
theorem laneStripe32Rounds : Obligations.LaneStripe32Rounds := by
  refine ⟨rfl, fun s => ?_⟩
  have reads : bytesRead .laneStripe32 = 16 := rfl
  refine ⟨exec_of_overrun rfl reads (by decide), exec_of_range rfl reads (by decide),
    fun h1 h2 round hround => ?_⟩
  rw [exec_of_fits rfl reads (by decide) h1 h2]
  simp only [hround, primitiveEffect, lanesAfter, Lanes.zipWith, round32_eq]
  rfl

/-- Settles O17: the three ends, and the four rounds in literals. -/
theorem laneStripe64Rounds : Obligations.LaneStripe64Rounds := by
  refine ⟨rfl, fun s => ?_⟩
  have reads : bytesRead .laneStripe64 = 32 := rfl
  refine ⟨exec_of_overrun rfl reads (by decide), exec_of_range rfl reads (by decide),
    fun h1 h2 round hround => ?_⟩
  rw [exec_of_fits rfl reads (by decide) h1 h2]
  simp only [hround, primitiveEffect, lanesAfter, Lanes.zipWith, round64_eq]
  rfl

/-- Settles O22: the three ends of each fold, and the fold in literals. -/
theorem tail64Folds : Obligations.Tail64Folds := by
  refine ⟨⟨rfl, rfl, rfl, ?noCommand⟩, fun s i n fold hcommand => ?folds⟩
  case noCommand =>
    have hrejected : decode 0x007 = .rejected .widthForbidden := rfl
    rintro ⟨i, h⟩
    cases hrejected.symm.trans h
  case folds =>
    have hcases : isHash i = false ∧ bytesRead i = n ∧ n ≠ 0 ∧
        primitiveEffect i s = { s with
          acc := fold (BitVec.ofNat 64 (s.atCursor n))
          off := s.off + BitVec.ofNat 64 n, draws := s.draws + n } := by
      obtain ⟨rfl, rfl, hfold⟩ | ⟨rfl, rfl, hfold⟩ | ⟨rfl, rfl, hfold⟩ := hcommand
      · exact ⟨rfl, rfl, by decide, by rw [hfold, ← fold8W64_eq]; rfl⟩
      · exact ⟨rfl, rfl, by decide, by rw [hfold, ← fold4W64_eq]; rfl⟩
      · exact ⟨rfl, rfl, by decide, by rw [hfold, ← fold1W64_eq]; rfl⟩
    obtain ⟨hi, reads, hpos, heffect⟩ := hcases
    refine ⟨exec_of_overrun hi reads hpos, exec_of_range hi reads hpos, fun h1 h2 => ?_⟩
    rw [exec_of_fits hi reads hpos h1 h2, heffect]
    rfl

/-- Settles O23: the three ends of each fold, and the fold in literals. -/
theorem tail32Folds : Obligations.Tail32Folds := by
  refine ⟨⟨rfl, rfl⟩, fun s i n fold hcommand => ?_⟩
  have hcases : isHash i = false ∧ bytesRead i = n ∧ n ≠ 0 ∧
      primitiveEffect i s = { s with
        acc := (fold (BitVec.ofNat 32 (s.atCursor n))).setWidth 64
        off := s.off + BitVec.ofNat 64 n, draws := s.draws + n } := by
    obtain ⟨rfl, rfl, hfold⟩ | ⟨rfl, rfl, hfold⟩ := hcommand
    · exact ⟨rfl, rfl, by decide, by rw [hfold, ← State.acc32_eq, ← fold4W32_eq]; rfl⟩
    · exact ⟨rfl, rfl, by decide, by rw [hfold, ← State.acc32_eq, ← fold1W32_eq]; rfl⟩
  obtain ⟨hi, reads, hpos, heffect⟩ := hcases
  refine ⟨exec_of_overrun hi reads hpos, exec_of_range hi reads hpos, fun h1 h2 => ?_⟩
  rw [exec_of_fits hi reads hpos h1 h2, heffect]
  rfl

end Sys2Proof
end

section
/-! HASH one core step at a time, for both widths at once (44_oneshot.md R200 to R204, 42_tail.md R169):
the move SEQ and the bytes left choose, what each move does, and O25, O26 and O27. -/

namespace Sys2Proof.Machine

/-! ### The two widths (30_encoding.md R91, R92) -/

/-- W of a command. -/
inductive Width where
  | narrow
  | wide

def Width.hash : Width → Instr
  | .narrow => .hash32
  | .wide => .hash64

def Width.laneInit : Width → Instr
  | .narrow => .laneInit32
  | .wide => .laneInit64

def Width.laneStripe : Width → Instr
  | .narrow => .laneStripe32
  | .wide => .laneStripe64

def Width.laneConv : Width → Instr
  | .narrow => .laneConv32
  | .wide => .laneConv64

def Width.accSeed : Width → Instr
  | .narrow => .accSeed32
  | .wide => .accSeed64

def Width.accLen : Width → Instr
  | .narrow => .accLen32
  | .wide => .accLen64

def Width.accAval : Width → Instr
  | .narrow => .accAval32
  | .wide => .accAval64

/-- The tail folds in the order the schedule tries them (R169). -/
def Width.tails : Width → List Instr
  | .narrow => [.tail4W32, .tail1W32]
  | .wide => [.tail8W64, .tail4W64, .tail1W64]

/-- The bytes of one stripe slot (41_stripe.md R144, R145). -/
def Width.slot : Width → Nat
  | .narrow => 4
  | .wide => 8

theorem exists_width_of_isHash {i : Instr} (h : isHash i = true) : ∃ w : Width, i = w.hash := by
  cases i
  case hash32 => exact ⟨.narrow, rfl⟩
  case hash64 => exact ⟨.wide, rfl⟩
  all_goals cases h

@[simp] theorem bytesRead_laneStripe (w : Width) : bytesRead w.laneStripe = 4 * w.slot := by
  cases w <;> rfl

/-! ### The moves of HASH -/

/-- One core step of HASH: the fault of its start, a `do` with the phase after it, or the last `do`. -/
inductive HashMove where
  | lenRange
  | step (i : Instr) (phase : SeqPhase)
  | last (i : Instr)

/-- The first fold of a schedule that fits in `n` bytes; with none, the avalanche (R169). -/
def tailMove (aval : Instr) : List Instr → Nat → HashMove
  | [], _ => .last aval
  | i :: rest, n => if bytesRead i ≤ n then .step i .tail else tailMove aval rest n

/-- The move SEQ and the bytes left choose (44_oneshot.md R200 to R202). -/
def Width.move (w : Width) (s : State) : HashMove :=
  match s.seq with
  | .idle =>
    if s.msgSize < s.len.toNat then .lenRange
    else if 4 * w.slot ≤ s.len.toNat then .step w.laneInit .stripes else .step w.accSeed .lengthFold
  | .stripes =>
    if 4 * w.slot ≤ s.remaining.toNat then .step w.laneStripe .stripes
    else .step w.laneConv .lengthFold
  | .lengthFold => .step w.accLen .tail
  | .tail => tailMove w.accAval w.tails s.remaining.toNat

/-- The state a `do` of HASH starts from: the first has a fresh cursor (R200). -/
def State.hashCursor (s : State) : State :=
  match s.seq with
  | .idle => s.setOff 0
  | _ => s

theorem State.hashCursor_of_idle {s : State} (h : s.seq = .idle) : s.hashCursor = s.setOff 0 := by
  simp only [State.hashCursor, h]

theorem State.hashCursor_of_running {s : State} (h : s.seq ≠ .idle) : s.hashCursor = s := by
  cases hs : s.seq with
  | idle => exact absurd hs h
  | stripes | lengthFold | tail => simp only [State.hashCursor, hs]

/-- The state after a move. -/
def HashMove.outcome (s : State) : HashMove → State
  | .lenRange => s.takeFault ⟨.lenRange, 0, 0⟩
  | .step i phase =>
    match primitiveCheck i s.hashCursor with
    | none => (primitiveEffect i s.hashCursor).setSeq phase
    | some r => s.hashCursor.takeHashFault r
  | .last i =>
    match primitiveCheck i s with
    | none => (primitiveEffect i s).complete
    | some r => s.takeHashFault r

theorem hashDo_eq {i : Instr} {s : State} (phase : SeqPhase) :
    hashDo (primitiveBody i) phase s.hashCursor = .next ((HashMove.step i phase).outcome s) := by
  rw [hashDo, HashMove.outcome]
  cases h : primitiveCheck i s.hashCursor with
  | none => rw [primitiveBody_of_check_none h]
  | some r => rw [primitiveBody_of_check_some h]

theorem hashLast_eq {i : Instr} {s : State} :
    hashLast (primitiveBody i) s = .next ((HashMove.last i).outcome s) := by
  rw [hashLast, HashMove.outcome]
  cases h : primitiveCheck i s with
  | none => rw [primitiveBody_of_check_none h]
  | some r => rw [primitiveBody_of_check_some h]

theorem hashStart_eq (w : Width) {s : State} (h : s.seq = .idle) :
    hashStart (4 * w.slot) (primitiveBody w.laneInit) (primitiveBody w.accSeed) s =
      .next ((w.move s).outcome s) := by
  rw [hashStart, ← State.hashCursor_of_idle h, hashDo_eq, hashDo_eq, Width.move, h]
  simp only [gt_iff_lt, ge_iff_le]
  split
  · rfl
  · split <;> rfl

theorem hashStripes_eq (w : Width) {s : State} (h : s.seq = .stripes) :
    hashStripes (4 * w.slot) (primitiveBody w.laneStripe) (primitiveBody w.laneConv) s =
      .next ((w.move s).outcome s) := by
  have hcursor : s.hashCursor = s := State.hashCursor_of_running (by rw [h]; decide)
  have hdo := fun i phase => hashDo_eq (i := i) (s := s) phase
  rw [hcursor] at hdo
  rw [hashStripes, hdo, hdo, Width.move, h]
  simp only [ge_iff_le]
  split <;> rfl

/-- HASH's core step is the outcome of the move its state chooses. -/
theorem exec_hash (w : Width) (s : State) : exec w.hash s = .next ((w.move s).outcome s) := by
  cases hs : s.seq with
  | idle =>
    rw [← hashStart_eq w hs]
    cases w <;> simp only [Width.hash, exec, execHash32, execHash64, hs] <;> rfl
  | stripes =>
    rw [← hashStripes_eq w hs]
    cases w <;> simp only [Width.hash, exec, execHash32, execHash64, hs] <;> rfl
  | lengthFold | tail =>
    have hcursor : s.hashCursor = s := State.hashCursor_of_running (by rw [hs]; decide)
    have hdo := fun i phase => hashDo_eq (i := i) (s := s) phase
    rw [hcursor] at hdo
    cases w <;>
      simp only [Width.hash, exec, execHash32, execHash64, Width.move, hs, tailMove, Width.tails,
        apply_ite (HashMove.outcome s), apply_ite Host.Outcome.next, ← hdo, ← hashLast_eq] <;> rfl

/-! ### Moves whose check passes -/

theorem HashMove.outcome_step {s : State} {i : Instr} {phase : SeqPhase}
    (h : primitiveCheck i s.hashCursor = none) :
    (HashMove.step i phase).outcome s = (primitiveEffect i s.hashCursor).setSeq phase := by
  simp only [HashMove.outcome, h]

theorem HashMove.outcome_last {s : State} {i : Instr} (h : primitiveCheck i s = none) :
    (HashMove.last i).outcome s = (primitiveEffect i s).complete := by
  simp only [HashMove.outcome, h]

/-- A primitive that does not read does not use OFF (30_encoding.md R95). -/
theorem primitiveEffect_setOff {i : Instr} (hreset : i ≠ .curReset) (hreads : bytesRead i = 0)
    (s : State) (o : Word) :
    primitiveEffect i (s.setOff o) =
      { s with
        lanes := lanesAfter i s, acc := accAfter i s, off := o, digest := digestAfter i s } := by
  have hoff : offAfter i (s.setOff o) = o := by rw [offAfter, if_neg hreset, if_pos hreads, State.setOff_off]
  rw [primitiveEffect, hoff, hreads]
  cases i
  case curReset => exact absurd rfl hreset
  case laneStripe32 | laneStripe64 | tail8W64 | tail4W32 | tail4W64 | tail1W32 | tail1W64 => cases hreads
  all_goals rfl

/-- A `do` past the start is the primitive it names, but for STATUS and SEQ (R204). -/
theorem hashDoes_of_move {w : Width} {s : State} {i : Instr} {phase : SeqPhase}
    (hi : isHash i = false) (hrun : s.seq ≠ .idle) (hmove : w.move s = .step i phase)
    (hcheck : primitiveCheck i s = none) : s.HashDoes w.hash i phase := by
  have hcursor := State.hashCursor_of_running hrun
  refine ⟨(primitiveEffect i s).complete, exec_of_check_none hi hcheck, rfl, ?_⟩
  rw [exec_hash, hmove, HashMove.outcome_step (by rwa [hcursor]), hcursor]
  rfl

/-- The same for a `do` that reads, by the bytes it finds. -/
theorem hashDoes_of_fits {w : Width} {s : State} {i : Instr} {phase : SeqPhase} {n : Nat}
    (hi : isHash i = false) (hn : bytesRead i = n) (hpos : n ≠ 0) (hrun : s.seq ≠ .idle)
    (hmove : w.move s = .step i phase) (h1 : n ≤ (s.len - s.off).toNat)
    (h2 : s.off.toNat + n ≤ s.msgSize) : s.HashDoes w.hash i phase := by
  subst hn
  exact hashDoes_of_move hi hrun hmove
    ((primitiveCheck_of_reads hpos s).trans (State.readCheck_none_iff.2 ⟨h1, h2⟩))

/-! ### The move of each phase -/

section
variable {w : Width} {s : State}

theorem Width.move_lenRange (hs : s.seq = .idle) (h : s.msgSize < s.len.toNat) :
    w.move s = .lenRange := by
  simp only [Width.move, hs, h, if_true]

theorem Width.move_long (hs : s.seq = .idle) (h1 : s.len.toNat ≤ s.msgSize)
    (h2 : 4 * w.slot ≤ s.len.toNat) : w.move s = .step w.laneInit .stripes := by
  simp only [Width.move, hs, Nat.not_lt.2 h1, h2, if_true, if_false]

theorem Width.move_short (hs : s.seq = .idle) (h1 : s.len.toNat ≤ s.msgSize)
    (h2 : s.len.toNat < 4 * w.slot) : w.move s = .step w.accSeed .lengthFold := by
  simp only [Width.move, hs, Nat.not_lt.2 h1, Nat.not_le.2 h2, if_false]

theorem Width.move_stripe (hs : s.seq = .stripes) (h : 4 * w.slot ≤ s.remaining.toNat) :
    w.move s = .step w.laneStripe .stripes := by
  simp only [Width.move, hs, h, if_true]

theorem Width.move_conv (hs : s.seq = .stripes) (h : s.remaining.toNat < 4 * w.slot) :
    w.move s = .step w.laneConv .lengthFold := by
  simp only [Width.move, hs, Nat.not_le.2 h, if_false]

theorem Width.move_lengthFold (hs : s.seq = .lengthFold) : w.move s = .step w.accLen .tail := by
  simp only [Width.move, hs]

theorem Width.move_tail (hs : s.seq = .tail) :
    w.move s = tailMove w.accAval w.tails s.remaining.toNat := by
  simp only [Width.move, hs]

theorem tailMove_cons_of_le {aval i : Instr} {rest : List Instr} {n : Nat} (h : bytesRead i ≤ n) :
    tailMove aval (i :: rest) n = .step i .tail := if_pos h

theorem tailMove_cons_of_lt {aval i : Instr} {rest : List Instr} {n : Nat} (h : n < bytesRead i) :
    tailMove aval (i :: rest) n = tailMove aval rest n := if_neg (Nat.not_le.2 h)

theorem Width.move_last (hs : s.seq = .tail) (h : s.remaining = 0) : w.move s = .last w.accAval := by
  rw [Width.move_tail hs, h]
  cases w <;> rfl

theorem primitiveCheck_accAval (w : Width) (h : s.remaining = 0) :
    primitiveCheck w.accAval s = none := by
  cases w <;> exact State.consumedCheck_of_consumed h

end

/-- The last `do` of HASH is ACC.AVAL itself, completion included (40_cursor.md R114). -/
theorem exec_hash_last (w : Width) {s : State} (hs : s.seq = .tail) (h : s.remaining = 0) :
    exec w.hash s = .next (primitiveEffect w.accAval s).complete ∧
      exec w.hash s = exec w.accAval s := by
  have hcheck := primitiveCheck_accAval w h
  have hhash : exec w.hash s = .next (primitiveEffect w.accAval s).complete := by
    rw [exec_hash, Width.move_last hs h, HashMove.outcome_last hcheck]
  have hi : isHash w.accAval = false := by cases w <;> rfl
  exact ⟨hhash, hhash.trans (exec_of_check_none hi hcheck).symm⟩

end Sys2Proof.Machine

namespace Sys2Proof

open Machine

/-- Settles O25: the three moves of a start, and what each writes. -/
theorem hashStartChoosesThePath : Obligations.HashStartChoosesThePath := by
  refine ⟨⟨rfl, rfl⟩, fun s hs => ?_⟩
  have hcursor := State.hashCursor_of_idle hs
  refine ⟨fun i hi h => ?lenRange, fun h1 h2 => ?long32, fun h1 h2 => ?short32, fun h1 h2 => ?long64,
    fun h1 h2 => ?short64⟩
  case lenRange =>
    obtain ⟨w, rfl⟩ := exists_width_of_isHash (i := i) (by rcases hi with rfl | rfl <;> rfl)
    rw [exec_hash, Width.move_lenRange hs h]
    rfl
  case long32 =>
    refine (exec_hash .narrow s).trans ?_
    rw [Width.move_long (w := .narrow) hs h1 h2, HashMove.outcome_step rfl, hcursor,
      primitiveEffect_setOff (by decide) rfl]
    rfl
  case short32 =>
    refine (exec_hash .narrow s).trans ?_
    rw [Width.move_short (w := .narrow) hs h1 h2, HashMove.outcome_step rfl, hcursor,
      primitiveEffect_setOff (by decide) rfl]
    rfl
  case long64 =>
    refine (exec_hash .wide s).trans ?_
    rw [Width.move_long (w := .wide) hs h1 h2, HashMove.outcome_step rfl, hcursor,
      primitiveEffect_setOff (by decide) rfl]
    rfl
  case short64 =>
    refine (exec_hash .wide s).trans ?_
    rw [Width.move_short (w := .wide) hs h1 h2, HashMove.outcome_step rfl, hcursor,
      primitiveEffect_setOff (by decide) rfl]
    rfl

/-- Settles O26: the move of each clause, and for the last the avalanche with its completion. -/
theorem hash32StepsArePrimitives : Obligations.Hash32StepsArePrimitives := by
  intro s
  refine ⟨fun hs h1 h2 => ?stripe, fun hs h => ?conv, fun hs => ?length, fun hs h1 h2 => ?tail4,
    fun hs h1 h2 h3 => ?tail1, fun hs h => ?last⟩
  all_goals have hrun : s.seq ≠ .idle := by rw [hs]; decide
  case stripe =>
    exact hashDoes_of_fits (w := .narrow) rfl rfl (by decide) hrun (Width.move_stripe hs h1) h1 h2
  case conv => exact hashDoes_of_move (w := .narrow) rfl hrun (Width.move_conv hs h) rfl
  case length => exact hashDoes_of_move (w := .narrow) rfl hrun (Width.move_lengthFold hs) rfl
  case tail4 =>
    have hmove : Width.narrow.move s = .step .tail4W32 .tail :=
      (Width.move_tail hs).trans (tailMove_cons_of_le h1)
    exact hashDoes_of_fits rfl rfl (by decide) hrun hmove h1 h2
  case tail1 =>
    have hmove : Width.narrow.move s = .step .tail1W32 .tail :=
      (Width.move_tail hs).trans ((tailMove_cons_of_lt h2).trans (tailMove_cons_of_le h1))
    exact hashDoes_of_fits rfl rfl (by decide) hrun hmove h1 h3
  case last =>
    have hleft := State.remaining_eq_zero.2 h.symm
    obtain ⟨-, hprimitive⟩ := exec_hash_last .narrow hs hleft
    refine ⟨hprimitive, hprimitive.trans ((exec_accAval32_of_consumed hleft).trans ?_)⟩
    rw [State.setDigest32, State.setAcc32, State.setDigest_setAcc]
    rfl

/-- Settles O27, as O26; the tail tries its three folds in turn. -/
theorem hash64StepsArePrimitives : Obligations.Hash64StepsArePrimitives := by
  intro s
  refine ⟨fun hs h1 h2 => ?stripe, fun hs h => ?conv, fun hs => ?length, fun hs h1 h2 => ?tail8,
    fun hs h1 h2 h3 => ?tail4, fun hs h1 h2 h3 => ?tail1, fun hs h => ?last⟩
  all_goals have hrun : s.seq ≠ .idle := by rw [hs]; decide
  case stripe =>
    exact hashDoes_of_fits (w := .wide) rfl rfl (by decide) hrun (Width.move_stripe hs h1) h1 h2
  case conv => exact hashDoes_of_move (w := .wide) rfl hrun (Width.move_conv hs h) rfl
  case length => exact hashDoes_of_move (w := .wide) rfl hrun (Width.move_lengthFold hs) rfl
  case tail8 =>
    have hmove : Width.wide.move s = .step .tail8W64 .tail :=
      (Width.move_tail hs).trans (tailMove_cons_of_le h1)
    exact hashDoes_of_fits rfl rfl (by decide) hrun hmove h1 h2
  case tail4 =>
    have hmove : Width.wide.move s = .step .tail4W64 .tail :=
      (Width.move_tail hs).trans ((tailMove_cons_of_lt h2).trans (tailMove_cons_of_le h1))
    exact hashDoes_of_fits rfl rfl (by decide) hrun hmove h1 h3
  case tail1 =>
    have h8 : s.remaining.toNat < 8 := Nat.lt_trans h2 (by decide)
    have hmove : Width.wide.move s = .step .tail1W64 .tail :=
      (Width.move_tail hs).trans ((tailMove_cons_of_lt h8).trans
        ((tailMove_cons_of_lt h2).trans (tailMove_cons_of_le h1)))
    exact hashDoes_of_fits rfl rfl (by decide) hrun hmove h1 h3
  case last =>
    have hleft := State.remaining_eq_zero.2 h.symm
    obtain ⟨-, hprimitive⟩ := exec_hash_last .wide hs hleft
    refine ⟨hprimitive, hprimitive.trans ((exec_accAval64_of_consumed hleft).trans ?_)⟩
    rw [State.setDigest_setAcc]

end Sys2Proof
end

section
/-! What all 21 commands can do and what they keep (10_state.md sections 2 and 5, 60_exceptions.md
sections 1 and 2): O33, O35, O36 and O37. -/

namespace Sys2Proof.Machine

/-! ### Every command answers a next state, and how (40_cursor.md R114, R115; 44_oneshot.md R204) -/

/-- A core step writes datapath registers, then completes, moves SEQ on, or enters a fault. -/
def State.CoreStep (s t : State) : Prop :=
  ∃ u, s.DatapathOnly u ∧ (t = u.complete ∨ (∃ phase, t = u.setSeq phase) ∨ ∃ r, t = u.takeFault r)

section
variable {s t : State} (h : s.DatapathOnly t)
include h

theorem State.DatapathOnly.status_eq : t.status = s.status := by
  obtain ⟨_, _, _, _, _, rfl⟩ := h
  rfl

theorem State.DatapathOnly.seed_eq : t.seed = s.seed := by
  obtain ⟨_, _, _, _, _, rfl⟩ := h
  rfl

theorem State.DatapathOnly.len_eq : t.len = s.len := by
  obtain ⟨_, _, _, _, _, rfl⟩ := h
  rfl

theorem State.DatapathOnly.pend_eq : t.pend = s.pend := by
  obtain ⟨_, _, _, _, _, rfl⟩ := h
  rfl

theorem State.DatapathOnly.msg_eq : t.msg = s.msg := by
  obtain ⟨_, _, _, _, _, rfl⟩ := h
  rfl

theorem State.DatapathOnly.msgSize_eq : t.msgSize = s.msgSize := by
  obtain ⟨_, _, _, _, _, rfl⟩ := h
  rfl

theorem State.DatapathOnly.inputs_eq : t.inputs = s.inputs := by
  obtain ⟨_, _, _, _, _, rfl⟩ := h
  rfl

end

theorem State.hashCursor_datapath (s : State) : s.DatapathOnly s.hashCursor := by
  by_cases h : s.seq = .idle
  · exact State.hashCursor_of_idle h ▸ s.setOff_datapath 0
  · rw [State.hashCursor_of_running h]
    exact .refl s

theorem State.freeDatapath_datapath (s : State) : s.DatapathOnly s.freeDatapath :=
  ⟨_, _, _, _, _, rfl⟩

theorem HashMove.outcome_coreStep (s : State) (move : HashMove) : s.CoreStep (move.outcome s) := by
  have start := s.hashCursor_datapath
  cases move with
  | lenRange => exact ⟨s, .refl s, .inr (.inr ⟨_, rfl⟩)⟩
  | step i phase =>
    rw [HashMove.outcome]
    cases primitiveCheck i s.hashCursor with
    | none => exact ⟨_, start.trans (primitiveEffect_datapath i _), .inr (.inl ⟨phase, rfl⟩)⟩
    | some r => exact ⟨_, start.trans (State.freeDatapath_datapath _), .inr (.inr ⟨r, rfl⟩)⟩
  | last i =>
    rw [HashMove.outcome]
    cases primitiveCheck i s with
    | none => exact ⟨_, primitiveEffect_datapath i s, .inl rfl⟩
    | some r => exact ⟨_, s.freeDatapath_datapath, .inr (.inr ⟨r, rfl⟩)⟩

theorem exec_next (i : Instr) (s : State) : ∃ t, exec i s = .next t ∧ s.CoreStep t := by
  by_cases hi : isHash i = true
  · obtain ⟨w, rfl⟩ := exists_width_of_isHash hi
    exact ⟨_, exec_hash w s, HashMove.outcome_coreStep s _⟩
  · rw [Bool.not_eq_true] at hi
    cases hc : primitiveCheck i s with
    | none =>
      exact ⟨_, exec_of_check_none hi hc, _, primitiveEffect_datapath i s, .inl rfl⟩
    | some r => exact ⟨_, exec_of_check_some hi hc, s, .refl s, .inr (.inr ⟨r, rfl⟩)⟩

theorem exec_coreStep {i : Instr} {s t : State} (h : exec i s = .next t) : s.CoreStep t := by
  obtain ⟨u, hu, hstep⟩ := exec_next i s
  cases hu.symm.trans h
  exact hstep

/-! ### Zero extension (10_state.md R38) -/

theorem upperZero_zext64 (v : Word32) : UpperZero (zext64 v) := by
  rw [UpperZero, zext64, BitVec.toNat_setWidth]
  omega

/-- The lanes, ACC and DIGEST of `t` are each those of `s` or zero-extended. -/
def State.NarrowWrites (s t : State) : Prop :=
  (t.lanes = s.lanes ∨
    UpperZero t.lanes.l1 ∧ UpperZero t.lanes.l2 ∧ UpperZero t.lanes.l3 ∧ UpperZero t.lanes.l4) ∧
  (t.acc = s.acc ∨ UpperZero t.acc) ∧ (t.digest = s.digest ∨ UpperZero t.digest)

section
variable {i : Instr} (hi : i ∈ narrowCommands) (s : State)
include hi

theorem lanesAfter_narrow :
    lanesAfter i s = s.lanes ∨ ∃ v : Lanes Word32, lanesAfter i s = v.map zext64 := by
  cases i
  case laneInit32 | laneStripe32 => exact .inr ⟨_, rfl⟩
  case laneInit64 | laneStripe64 => exact absurd hi (by decide)
  all_goals exact .inl rfl

theorem accAfter_narrow : accAfter i s = s.acc ∨ ∃ v : Word32, accAfter i s = zext64 v := by
  cases i
  case laneConv32 | accSeed32 | accLen32 | tail4W32 | tail1W32 | accAval32 => exact .inr ⟨_, rfl⟩
  case laneInit32 | laneStripe32 | hash32 => exact .inl rfl
  all_goals exact absurd hi (by decide)

theorem digestAfter_narrow :
    digestAfter i s = s.digest ∨ ∃ v : Word32, digestAfter i s = zext64 v := by
  cases i
  case accAval32 => exact .inr ⟨_, rfl⟩
  case accAval64 => exact absurd hi (by decide)
  all_goals exact .inl rfl

theorem primitiveEffect_narrowWrites : s.NarrowWrites (primitiveEffect i s) := by
  refine ⟨(lanesAfter_narrow hi s).imp_right ?_, (accAfter_narrow hi s).imp_right ?_,
    (digestAfter_narrow hi s).imp_right ?_⟩
  · rintro ⟨v, hv⟩
    rw [primitiveEffect_lanes, hv]
    exact ⟨upperZero_zext64 _, upperZero_zext64 _, upperZero_zext64 _, upperZero_zext64 _⟩
  · rintro ⟨v, hv⟩
    rw [primitiveEffect_acc, hv]
    exact upperZero_zext64 v
  · rintro ⟨v, hv⟩
    rw [primitiveEffect_digest, hv]
    exact upperZero_zext64 v

end

theorem State.NarrowWrites.complete {s t : State} (h : s.NarrowWrites t) :
    s.NarrowWrites t.complete := h

theorem State.NarrowWrites.setSeq {s t : State} (h : s.NarrowWrites t) (phase : SeqPhase) :
    s.NarrowWrites (t.setSeq phase) := h

/-! ### What a move can be (44_oneshot.md R201, R202; 42_tail.md R169) -/

/-- The commands HASH performs before its last `do`. -/
def Width.schedule (w : Width) : List Instr :=
  w.laneInit :: w.laneStripe :: w.laneConv :: w.accSeed :: w.accLen :: w.tails

theorem tailMove_eq_step {aval i : Instr} {folds : List Instr} {n : Nat} {phase : SeqPhase}
    (h : tailMove aval folds n = .step i phase) : i ∈ folds ∧ phase = .tail ∧ bytesRead i ≤ n := by
  induction folds with
  | nil => cases h
  | cons j rest ih =>
    rw [tailMove] at h
    split at h
    · cases h
      exact ⟨List.mem_cons_self, rfl, ‹_›⟩
    · obtain ⟨hmem, hphase, hle⟩ := ih h
      exact ⟨List.mem_cons_of_mem _ hmem, hphase, hle⟩

theorem tailMove_eq_last {aval i : Instr} {folds : List Instr} {n : Nat}
    (h : tailMove aval folds n = .last i) : i = aval ∧ ∀ j ∈ folds, n < bytesRead j := by
  induction folds with
  | nil =>
    cases h
    exact ⟨rfl, by simp⟩
  | cons j rest ih =>
    rw [tailMove] at h
    split at h
    · cases h
    · obtain ⟨hi, hlt⟩ := ih h
      exact ⟨hi, List.forall_mem_cons.2 ⟨by omega, hlt⟩⟩

section
variable {w : Width} {s : State} {i : Instr}

theorem Width.move_eq_step {phase : SeqPhase} (h : w.move s = .step i phase) :
    i ∈ w.schedule ∧ phase ≠ .idle ∧ bytesRead i ≤ s.hashCursor.remaining.toNat := by
  have hinit : bytesRead w.laneInit = 0 := by cases w <;> rfl
  have hseed : bytesRead w.accSeed = 0 := by cases w <;> rfl
  have hconv : bytesRead w.laneConv = 0 := by cases w <;> rfl
  have hlen : bytesRead w.accLen = 0 := by cases w <;> rfl
  cases hs : s.seq with
  | idle =>
    simp only [Width.move, hs] at h
    split at h
    · cases h
    · split at h <;> cases h
      · exact ⟨by simp [Width.schedule], by decide, by omega⟩
      · exact ⟨by simp [Width.schedule], by decide, by omega⟩
  | stripes =>
    rw [State.hashCursor_of_running (by rw [hs]; decide)]
    simp only [Width.move, hs] at h
    split at h <;> cases h
    · exact ⟨by simp [Width.schedule], by decide, by rwa [bytesRead_laneStripe]⟩
    · exact ⟨by simp [Width.schedule], by decide, by omega⟩
  | lengthFold =>
    simp only [Width.move, hs] at h
    cases h
    exact ⟨by simp [Width.schedule], by decide, by omega⟩
  | tail =>
    rw [State.hashCursor_of_running (by rw [hs]; decide)]
    obtain ⟨hmem, rfl, hle⟩ := tailMove_eq_step ((Width.move_tail hs).symm.trans h)
    exact ⟨by simp [Width.schedule, hmem], by decide, hle⟩

theorem Width.move_eq_last (h : w.move s = .last i) :
    i = w.accAval ∧ s.seq = .tail ∧ s.remaining = 0 := by
  cases hs : s.seq with
  | idle =>
    simp only [Width.move, hs] at h
    split at h
    · cases h
    · split at h <;> cases h
  | stripes =>
    simp only [Width.move, hs] at h
    split at h <;> cases h
  | lengthFold =>
    simp only [Width.move, hs] at h
    cases h
  | tail =>
    obtain ⟨hi, hlt⟩ := tailMove_eq_last ((Width.move_tail hs).symm.trans h)
    have hnone : s.remaining.toNat < 1 := by
      cases w
      · exact hlt .tail1W32 (by decide)
      · exact hlt .tail1W64 (by decide)
    exact ⟨hi, rfl, BitVec.eq_of_toNat_eq (by simpa using hnone)⟩

/-- All a core step of HASH can do: a `do` of its schedule, the last `do`, or a fault. -/
theorem exec_hash_cases {t : State} (h : exec w.hash s = .next t) :
    (∃ i ∈ w.schedule, ∃ phase, phase ≠ .idle ∧ w.move s = .step i phase ∧
        primitiveCheck i s.hashCursor = none ∧ t = (primitiveEffect i s.hashCursor).setSeq phase) ∨
      (s.seq = .tail ∧ s.remaining = 0 ∧ t = (primitiveEffect w.accAval s).complete) ∨
      ∃ u r, s.DatapathOnly u ∧ t = u.takeFault r := by
  rw [exec_hash] at h
  cases h
  cases hmove : w.move s with
  | lenRange => exact .inr (.inr ⟨s, _, .refl s, rfl⟩)
  | step i phase =>
    obtain ⟨hi, hphase, -⟩ := Width.move_eq_step hmove
    rw [HashMove.outcome]
    cases hc : primitiveCheck i s.hashCursor with
    | none => exact .inl ⟨i, hi, phase, hphase, rfl, hc, rfl⟩
    | some r =>
      exact .inr (.inr ⟨_, r, s.hashCursor_datapath.trans (State.freeDatapath_datapath _), rfl⟩)
  | last i =>
    obtain ⟨rfl, hs, hleft⟩ := Width.move_eq_last hmove
    exact .inr (.inl ⟨hs, hleft, HashMove.outcome_last (primitiveCheck_accAval w hleft)⟩)

end

@[simp] theorem State.hashCursor_lanes (s : State) : s.hashCursor.lanes = s.lanes := by
  cases h : s.seq <;> simp [State.hashCursor, h]

@[simp] theorem State.hashCursor_acc (s : State) : s.hashCursor.acc = s.acc := by
  cases h : s.seq <;> simp [State.hashCursor, h]

@[simp] theorem State.hashCursor_seed (s : State) : s.hashCursor.seed = s.seed := by
  cases h : s.seq <;> simp [State.hashCursor, h]

@[simp] theorem State.hashCursor_len (s : State) : s.hashCursor.len = s.len := by
  cases h : s.seq <;> simp [State.hashCursor, h]

@[simp] theorem State.hashCursor_digest (s : State) : s.hashCursor.digest = s.digest := by
  cases h : s.seq <;> simp [State.hashCursor, h]

/-- HASH.32 is the only 32-bit command that is no primitive. -/
theorem isHash_of_narrow {i : Instr} (hi : i ∈ narrowCommands) (hne : i ≠ .hash32) :
    isHash i = false := by
  cases i
  case hash32 => exact absurd rfl hne
  case hash64 => exact absurd hi (by decide)
  all_goals rfl

theorem narrowCommands_of_schedule {i : Instr} (h : i ∈ Width.narrow.schedule) :
    i ∈ narrowCommands := by
  have hall : ∀ i ∈ Width.narrow.schedule, i ∈ narrowCommands := by decide
  exact hall i h

/-- The record of a raise: cause, FOFF and FNEED as R221 gives them. -/
theorem State.Raises.record {s : State} {r : Raise} (h : s.Raises r) :
    (r.cause.code = 2 ∨ r.cause.code = 3) ∧ r.off = s.off ∧
        r.need ∈ ([1, 4, 8, 16, 32] : List Word) ∨
      r.cause.code = 5 ∧ r.off = s.off ∧ r.need = s.remaining := by
  have hneed : ∀ n ∈ [1, 4, 8, 16, 32], BitVec.ofNat 64 n ∈ ([1, 4, 8, 16, 32] : List Word) := by
    decide
  obtain ⟨n, hn, ⟨-, rfl⟩ | ⟨-, -, rfl⟩⟩ | ⟨-, rfl⟩ := h
  · exact .inl ⟨.inl rfl, rfl, hneed n hn⟩
  · exact .inl ⟨.inr rfl, rfl, hneed n hn⟩
  · exact .inr ⟨rfl, rfl, rfl⟩

/-- The first `do` of HASH cannot raise: it only writes the lanes or ACC. -/
theorem status_of_first_do {i : Instr} {phase : SeqPhase} {s t : State}
    (hi : i ∈ [Instr.laneInit32, .laneInit64, .accSeed32, .accSeed64])
    (h : hashDo (primitiveBody i) phase s = .next t) : t.status = s.status := by
  have hcheck : primitiveCheck i s = none := by
    simp only [List.mem_cons, List.not_mem_nil, or_false] at hi
    rcases hi with rfl | rfl | rfl | rfl <;> rfl
  rw [hashDo_ok (primitiveBody_of_check_none hcheck)] at h
  cases h
  rfl

end Sys2Proof.Machine

namespace Sys2Proof

open Machine

/-- Settles O33: a core step writes none of them, however it ends. -/
theorem commandsNeverWriteTheHostsRegisters : Obligations.CommandsNeverWriteTheHostsRegisters := by
  intro i s t h
  obtain ⟨u, ⟨_, _, _, _, _, rfl⟩, rfl | ⟨phase, rfl⟩ | ⟨r, rfl⟩⟩ := exec_coreStep h
  all_goals exact ⟨rfl, rfl, rfl, rfl, rfl, rfl, rfl, rfl, fun _ => rfl⟩

/-- Settles O36: what a 32-bit command writes is its effect's, or that of a `do` of HASH.32. -/
theorem narrowResultsAreZeroExtended : Obligations.NarrowResultsAreZeroExtended := by
  intro i s t hi h hfault
  suffices s.NarrowWrites t from this
  by_cases hhash : i = .hash32
  case pos =>
    subst hhash
    obtain ⟨j, hj, phase, -, -, -, rfl⟩ | ⟨-, -, rfl⟩ | ⟨u, r, -, rfl⟩ := exec_hash_cases (w := .narrow) h
    · have hwrites := primitiveEffect_narrowWrites (narrowCommands_of_schedule hj) s.hashCursor
      rw [State.NarrowWrites, s.hashCursor_lanes, s.hashCursor_acc, s.hashCursor_digest] at hwrites
      exact State.NarrowWrites.setSeq hwrites phase
    · exact (primitiveEffect_narrowWrites (i := .accAval32) (by decide) s).complete
    · cases hfault
  case neg =>
    have hprimitive := isHash_of_narrow hi hhash
    obtain ⟨-, rfl⟩ | ⟨r, -, rfl⟩ := exec_primitive_cases hprimitive h
    · exact (primitiveEffect_narrowWrites hi s).complete
    · cases hfault

/-- Settles O35: the raises of a primitive have the table's record, and a HASH that starts raises
LEN_RANGE or nothing. -/
theorem faultsArePrecise : Obligations.FaultsArePrecise := by
  intro i s t hstart h hbefore hafter
  cases hhash : isHash i with
  | false =>
    obtain ⟨-, rfl⟩ | ⟨r, hr, rfl⟩ := exec_primitive_cases hhash h
    case inl => exact absurd hafter (by simp [Status.completed, hbefore])
    case inr => exact ⟨rfl, rfl, rfl, rfl, rfl, (State.Raises.record hr).imp id .inr⟩
  | true =>
    have hidle : s.seq = .idle := hstart.resolve_left (by simp [hhash])
    obtain ⟨-, -, rfl⟩ | ⟨-, -, j, phase, hj, -, hdo⟩ | ⟨hrun, -⟩ | ⟨hrun, -⟩ := execHash_cases hhash h
    case inl => exact ⟨rfl, rfl, rfl, rfl, rfl, .inr (.inl ⟨rfl, rfl, rfl⟩)⟩
    case inr.inl =>
      rw [status_of_first_do hj hdo] at hafter
      exact absurd hafter (by simp [hbefore])
    all_goals exact absurd hidle hrun

end Sys2Proof
end

section
/-! What a command depends on (30_encoding.md R95): 32-bit commands on low halves alone (10_state.md R38),
no step on LANE_IMPL (00_scope.md R8, 41_stripe.md R146), and O37 and O53. -/

namespace Sys2Proof.Machine

/-! ### Reads at the cursor and checks depend on the cursor and the message alone -/

section
variable {s t : State} (hoff : t.off = s.off)
include hoff

theorem State.slots_congr (hdraws : t.draws = s.draws) (hmsg : t.msg = s.msg) (k : Nat) :
    t.slots k = s.slots k := by
  simp only [State.slots, hoff, hdraws, State.memRead_congr hmsg]

theorem State.atCursor_congr (hdraws : t.draws = s.draws) (hmsg : t.msg = s.msg) (n : Nat) :
    t.atCursor n = s.atCursor n := by
  simp only [State.atCursor, hoff, hdraws, State.memRead_congr hmsg]

theorem primitiveCheck_congr (hlen : t.len = s.len) (hsize : t.msgSize = s.msgSize) (i : Instr) :
    primitiveCheck i t = primitiveCheck i s := by
  have hleft : t.remaining = s.remaining := by rw [State.remaining, hoff, hlen, State.remaining]
  have hread : ∀ n, t.readCheck n = s.readCheck n := fun n => by
    rw [State.readCheck, hleft, hoff, hsize, State.readCheck]
  have hconsumed : t.consumedCheck = s.consumedCheck := by
    rw [State.consumedCheck, hleft, hoff, State.consumedCheck]
  unfold primitiveCheck
  split
  · exact hconsumed
  · exact hconsumed
  · rw [hread]

theorem Width.move_congr (hlen : t.len = s.len) (hsize : t.msgSize = s.msgSize) (hseq : t.seq = s.seq)
    (w : Width) : w.move t = w.move s := by
  have hleft : t.remaining = s.remaining := by rw [State.remaining, hoff, hlen, State.remaining]
  rw [Width.move, hleft, hlen, hsize, hseq, Width.move]

end

/-! ### 32-bit commands and the upper halves -/

/-- What two states that agree on low halves have in common. -/
theorem State.SameLow32.fields {s t : State} (h : s.SameLow32 t) :
    t.seed32 = s.seed32 ∧ t.acc32 = s.acc32 ∧ t.lanes32 = s.lanes32 ∧ t.len32 = s.len32 ∧
      (∀ k, t.slots k = s.slots k) ∧ ∀ n, t.atCursor n = s.atCursor n := by
  obtain ⟨x, a, l, rfl, hx, ha, hl⟩ := h
  exact ⟨hx, ha, hl, rfl, State.slots_congr rfl rfl rfl, State.atCursor_congr rfl rfl rfl⟩

section
variable {i : Instr} {s t : State} (hi : i ∈ narrowCommands) (h : s.SameLow32 t)
include hi h

theorem lanesAfter_low32 : (lanesAfter i t).map lo32 = (lanesAfter i s).map lo32 := by
  obtain ⟨hseed, -, hlanes, -, hslots, -⟩ := h.fields
  cases i
  case laneInit32 => rw [lanesAfter, lanesAfter, hseed]
  case laneStripe32 => rw [lanesAfter, lanesAfter, hlanes, hslots]
  case laneInit64 | laneStripe64 => exact absurd hi (by decide)
  all_goals exact hlanes

theorem accAfter_low32 : lo32 (accAfter i t) = lo32 (accAfter i s) := by
  obtain ⟨hseed, hacc, hlanes, hlen, -, hbytes⟩ := h.fields
  cases i
  case laneConv32 => rw [accAfter, accAfter, hlanes]
  case accSeed32 => rw [accAfter, accAfter, hseed]
  case accLen32 => rw [accAfter, accAfter, hacc, hlen]
  case tail4W32 | tail1W32 => rw [accAfter, accAfter, hacc, hbytes]
  case accAval32 => rw [accAfter, accAfter, hacc]
  case laneInit32 | laneStripe32 | hash32 => exact hacc
  all_goals exact absurd hi (by decide)

theorem digestAfter_low32 : digestAfter i t = digestAfter i s := by
  obtain ⟨-, hacc, -, -, -, -⟩ := h.fields
  obtain ⟨x, a, l, rfl, -⟩ := h
  cases i
  case accAval32 => rw [digestAfter, digestAfter, hacc]
  case accAval64 => exact absurd hi (by decide)
  all_goals rfl

theorem State.SameLow32.effect : (primitiveEffect i s).SameLow32 (primitiveEffect i t) := by
  have hlanes := lanesAfter_low32 hi h
  have hacc := accAfter_low32 hi h
  have hdigest := digestAfter_low32 hi h
  obtain ⟨x, a, l, rfl, hx, -, -⟩ := h
  refine ⟨x, _, _, ?_, hx, hacc, hlanes⟩
  rw [primitiveEffect, hdigest]
  rfl

end

section
variable {s t : State} (h : s.SameLow32 t)
include h

theorem State.SameLow32.complete : s.complete.SameLow32 t.complete := by
  obtain ⟨x, a, l, rfl, hlow⟩ := h
  exact ⟨x, a, l, rfl, hlow⟩

theorem State.SameLow32.setSeq (phase : SeqPhase) : (s.setSeq phase).SameLow32 (t.setSeq phase) := by
  obtain ⟨x, a, l, rfl, hlow⟩ := h
  exact ⟨x, a, l, rfl, hlow⟩

theorem State.SameLow32.takeFault (r : Raise) : (s.takeFault r).SameLow32 (t.takeFault r) := by
  obtain ⟨x, a, l, rfl, hlow⟩ := h
  exact ⟨x, a, l, rfl, hlow⟩

theorem State.SameLow32.takeHashFault (r : Raise) :
    (s.takeHashFault r).SameLow32 (t.takeHashFault r) := by
  obtain ⟨x, a, l, rfl, hx, -, -⟩ := h
  exact ⟨x, _, _, rfl, hx, rfl, rfl⟩

theorem State.SameLow32.hashCursor : s.hashCursor.SameLow32 t.hashCursor := by
  obtain ⟨x, a, l, rfl, hlow⟩ := h
  by_cases hs : s.seq = .idle
  · rw [State.hashCursor_of_idle hs, State.hashCursor_of_idle (by exact hs)]
    exact ⟨x, a, l, rfl, hlow⟩
  · rw [State.hashCursor_of_running hs, State.hashCursor_of_running (by exact hs)]
    exact ⟨x, a, l, rfl, hlow⟩

theorem State.SameLow32.check (i : Instr) : primitiveCheck i t = primitiveCheck i s := by
  obtain ⟨x, a, l, rfl, -⟩ := h
  exact primitiveCheck_congr rfl rfl rfl i

theorem State.SameLow32.move (w : Width) : w.move t = w.move s := by
  obtain ⟨x, a, l, rfl, -⟩ := h
  exact Width.move_congr rfl rfl rfl rfl w

theorem State.SameLow32.outcome {move : HashMove} (hmove : Width.narrow.move s = move) :
    (move.outcome s).SameLow32 (move.outcome t) := by
  cases move with
  | lenRange => exact h.takeFault _
  | step i phase =>
    obtain ⟨hi, -, -⟩ := Width.move_eq_step hmove
    rw [HashMove.outcome, HashMove.outcome, h.hashCursor.check]
    cases primitiveCheck i s.hashCursor with
    | none => exact (h.hashCursor.effect (narrowCommands_of_schedule hi)).setSeq phase
    | some r => exact h.hashCursor.takeHashFault r
  | last i =>
    obtain ⟨rfl, -, -⟩ := Width.move_eq_last hmove
    rw [HashMove.outcome, HashMove.outcome, h.check]
    cases primitiveCheck Width.narrow.accAval s with
    | none => exact (h.effect (by decide)).complete
    | some r => exact h.takeHashFault r

end

/-! ### LANE_IMPL -/

/-- `s` with another datapath built in. -/
def State.withImpl (s : State) (impl : LaneImpl) : State := { s with laneImpl := impl }

section
variable (s : State) (impl : LaneImpl)

theorem lanesAfter_withImpl (i : Instr) : lanesAfter i (s.withImpl impl) = lanesAfter i s := by
  have hslots : ∀ k, (s.withImpl impl).slots k = s.slots k := State.slots_congr rfl rfl rfl
  cases i
  case laneStripe32 => rw [lanesAfter, lanesAfter, hslots]; rfl
  case laneStripe64 => rw [lanesAfter, lanesAfter, hslots]; rfl
  all_goals rfl

theorem accAfter_withImpl (i : Instr) : accAfter i (s.withImpl impl) = accAfter i s := by
  have hbytes : ∀ n, (s.withImpl impl).atCursor n = s.atCursor n := State.atCursor_congr rfl rfl rfl
  cases i
  case tail8W64 | tail4W32 | tail4W64 | tail1W32 | tail1W64 => rw [accAfter, accAfter, hbytes]; rfl
  all_goals rfl

theorem digestAfter_withImpl (i : Instr) : digestAfter i (s.withImpl impl) = digestAfter i s := by
  cases i <;> rfl

theorem primitiveEffect_withImpl (i : Instr) :
    primitiveEffect i (s.withImpl impl) = (primitiveEffect i s).withImpl impl := by
  rw [primitiveEffect, lanesAfter_withImpl, accAfter_withImpl, digestAfter_withImpl]
  rfl

theorem primitiveCheck_withImpl (i : Instr) :
    primitiveCheck i (s.withImpl impl) = primitiveCheck i s := primitiveCheck_congr rfl rfl rfl i

theorem State.hashCursor_withImpl : (s.withImpl impl).hashCursor = s.hashCursor.withImpl impl := by
  by_cases hs : s.seq = .idle
  · rw [State.hashCursor_of_idle hs, State.hashCursor_of_idle (by exact hs)]
    rfl
  · rw [State.hashCursor_of_running hs, State.hashCursor_of_running (by exact hs)]

theorem HashMove.outcome_withImpl (move : HashMove) :
    move.outcome (s.withImpl impl) = (move.outcome s).withImpl impl := by
  cases move with
  | lenRange => rfl
  | step i phase =>
    rw [HashMove.outcome, HashMove.outcome, State.hashCursor_withImpl, primitiveCheck_withImpl]
    cases primitiveCheck i s.hashCursor with
    | none => simp only [primitiveEffect_withImpl]; rfl
    | some r => rfl
  | last i =>
    rw [HashMove.outcome, HashMove.outcome, primitiveCheck_withImpl]
    cases primitiveCheck i s with
    | none => simp only [primitiveEffect_withImpl]; rfl
    | some r => rfl

theorem State.regRead_withImpl (off : Word) :
    (s.withImpl impl).regRead off = ((s.regRead off).1, (s.regRead off).2.withImpl impl) := by
  have hvalue : ∀ r, (s.withImpl impl).regValue r = s.regValue r := fun r => by cases r <;> rfl
  rw [State.regRead, State.regRead]
  cases slotAt off with
  | bad => rfl
  | reserved => rfl
  | reg r =>
    simp only [hvalue, show (s.withImpl impl).status = s.status from rfl]
    split <;> rfl

theorem State.regWrite_withImpl (off v : Word) :
    (s.withImpl impl).regWrite off v = (s.regWrite off v).withImpl impl := by
  rw [State.regWrite, State.regWrite, show (s.withImpl impl).status = s.status from rfl]
  cases slotAt off with
  | bad => rfl
  | reserved => rfl
  | reg r =>
    cases r
    case ctrl | cmd | seed | len => simp only; split <;> rfl
    all_goals rfl

theorem State.hostAct_withImpl (op : HostOp) :
    (s.withImpl impl).hostAct op = (s.hostAct op).withImpl impl := by
  cases op with
  | regRead off => rw [State.hostAct, State.regRead_withImpl]; rfl
  | regWrite off v => rw [State.hostAct, State.regWrite_withImpl]; rfl
  | msgRead a =>
    simp only [State.hostAct, State.msgRead, show (s.withImpl impl).msgSize = s.msgSize from rfl]
    split <;> rfl
  | msgWrite a b =>
    simp only [State.hostAct, State.msgWrite, show (s.withImpl impl).msgSize = s.msgSize from rfl,
      show (s.withImpl impl).status = s.status from rfl]
    split <;> rfl

theorem State.nextTurn_withImpl :
    (s.withImpl impl).nextTurn = (s.nextTurn.1, s.nextTurn.2.withImpl impl) := by
  rw [State.nextTurn, State.nextTurn, show (s.withImpl impl).inputs = s.inputs from rfl]
  cases s.inputs with
  | nil => rfl
  | cons e rest => cases e <;> rfl

end

section
variable {s t : State} (impl : LaneImpl)

theorem exec_withImpl {i : Instr} (h : exec i s = .next t) :
    exec i (s.withImpl impl) = .next (t.withImpl impl) := by
  by_cases hi : isHash i = true
  · obtain ⟨w, rfl⟩ := exists_width_of_isHash hi
    have hmove : w.move (s.withImpl impl) = w.move s := Width.move_congr rfl rfl rfl rfl w
    rw [exec_hash] at h
    rw [exec_hash, hmove, HashMove.outcome_withImpl]
    cases h
    rfl
  · rw [Bool.not_eq_true] at hi
    have hcheck := primitiveCheck_withImpl s impl i
    cases hc : primitiveCheck i s with
    | none =>
      rw [exec_of_check_none hi hc] at h
      rw [exec_of_check_none hi (hcheck.trans hc), primitiveEffect_withImpl]
      cases h
      rfl
    | some r =>
      rw [exec_of_check_some hi hc] at h
      rw [exec_of_check_some hi (hcheck.trans hc)]
      cases h
      rfl

theorem coreTurn_withImpl (h : coreTurn s = .next t) :
    coreTurn (s.withImpl impl) = .next (t.withImpl impl) := by
  rw [coreTurn] at h ⊢
  rw [show (s.withImpl impl).fetchWord = s.fetchWord from rfl]
  cases hd : decode s.fetchWord with
  | instr i =>
    rw [hd] at h
    exact exec_withImpl impl h
  | rejected why =>
    rw [hd] at h
    cases h
    rfl

theorem step_withImpl (h : step s = .next t) :
    step (s.withImpl impl) = .next (t.withImpl impl) := by
  rw [step] at h ⊢
  rw [State.nextTurn_withImpl]
  cases hturn : s.nextTurn with
  | mk turn u =>
    rw [hturn] at h
    cases turn with
    | core => exact coreTurn_withImpl impl h
    | host op =>
      cases h
      exact congrArg _ (State.hostAct_withImpl u impl op)
    | hardReset =>
      cases h
      rfl
    | idle =>
      cases h
      rfl

end

end Sys2Proof.Machine

namespace Sys2Proof

open Machine

/-- Settles O37: a primitive's check and effect, or those of HASH.32's move, at both states. -/
theorem narrowCommandsIgnoreUpperHalves : Obligations.NarrowCommandsIgnoreUpperHalves := by
  intro i s s' t t' hi hsame h h'
  by_cases hhash : i = .hash32
  case pos =>
    subst hhash
    have hs := (exec_hash .narrow s).symm.trans h
    have hs' := (exec_hash .narrow s').symm.trans h'
    rw [hsame.move] at hs'
    cases hs
    cases hs'
    exact hsame.outcome rfl
  case neg =>
    have hprimitive := isHash_of_narrow hi hhash
    cases hc : primitiveCheck i s with
    | none =>
      rw [exec_of_check_none hprimitive hc] at h
      rw [exec_of_check_none hprimitive ((hsame.check i).trans hc)] at h'
      cases h
      cases h'
      exact (hsame.effect hi).complete
    | some r =>
      rw [exec_of_check_some hprimitive hc] at h
      rw [exec_of_check_some hprimitive ((hsame.check i).trans hc)] at h'
      cases h
      cases h'
      exact hsame.takeFault r

/-- Settles O53: the step commutes with changing the datapath; that LANE_IMPL is kept is the case of
changing it to itself. -/
theorem laneImplDoesNotChangeAnyStep : Obligations.LaneImplDoesNotChangeAnyStep := by
  refine fun s t impl h => ⟨?kept, step_withImpl impl h⟩
  have hself := h.symm.trans (step_withImpl s.laneImpl h)
  rw [Host.Outcome.next.injEq] at hself
  have hkept : t.laneImpl = (t.withImpl s.laneImpl).laneImpl := congrArg State.laneImpl hself
  exact hkept

end Sys2Proof
end

section
/-! The invariant of every reachable state (Safety.lean): HASH past its start never faults
(44_oneshot.md R203), every step keeps the invariant, and O49, O50 and O51. -/

namespace Sys2Proof.Machine

/-! ### Where the cursor goes (10_state.md R23, 40_cursor.md R116) -/

theorem offAfter_toNat {i : Instr} {s : State} (hi : i ≠ .curReset)
    (h : s.off.toNat + bytesRead i ≤ s.len.toNat) :
    (offAfter i s).toNat = s.off.toNat + bytesRead i := by
  rw [offAfter, if_neg hi]
  split
  · omega
  · exact State.advance_off_toNat h

/-- Where a primitive's check passes, it leaves OFF within LEN. -/
theorem offAfter_le_len {i : Instr} {s : State} (hcheck : primitiveCheck i s = none)
    (hoff : s.off.toNat ≤ s.len.toNat) : (offAfter i s).toNat ≤ s.len.toNat := by
  by_cases hreset : i = .curReset
  · rw [offAfter, if_pos hreset]
    exact Nat.zero_le _
  · by_cases hreads : bytesRead i = 0
    · rwa [offAfter, if_neg hreset, if_pos hreads]
    · rw [primitiveCheck_of_reads hreads, State.readCheck_none_iff, State.remaining_toNat hoff] at hcheck
      rw [offAfter_toNat hreset (by omega)]
      omega

/-! ### HASH with its cursor in range (44_oneshot.md R203) -/

theorem primitiveCheck_of_schedule {w : Width} {i : Instr} (hi : i ∈ w.schedule) (s : State) :
    primitiveCheck i s = if bytesRead i = 0 then none else s.readCheck (bytesRead i) := by
  have haval : ∀ i ∈ w.schedule, i ≠ .accAval32 ∧ i ≠ .accAval64 := by cases w <;> decide
  obtain ⟨h32, h64⟩ := haval i hi
  cases i
  case accAval32 => exact absurd rfl h32
  case accAval64 => exact absurd rfl h64
  all_goals rfl

theorem curReset_not_mem_schedule (w : Width) : Instr.curReset ∉ w.schedule := by
  cases w <;> decide

theorem tailMove_ne_lenRange (aval : Instr) (folds : List Instr) (n : Nat) :
    tailMove aval folds n ≠ .lenRange := by
  induction folds with
  | nil => exact nofun
  | cons i rest ih =>
    rw [tailMove]
    split
    · exact nofun
    · exact ih

theorem Width.msgSize_lt_of_lenRange {w : Width} {s : State} (h : w.move s = .lenRange) :
    s.msgSize < s.len.toNat := by
  cases hs : s.seq with
  | idle =>
    simp only [Width.move, hs] at h
    split at h
    · assumption
    · split at h <;> cases h
  | stripes =>
    simp only [Width.move, hs] at h
    split at h <;> cases h
  | lengthFold =>
    simp only [Width.move, hs] at h
    cases h
  | tail => exact absurd ((Width.move_tail hs).symm.trans h) (tailMove_ne_lenRange _ _ _)

section
variable (w : Width) {s : State} (hoff : s.seq ≠ .idle → s.off.toNat ≤ s.len.toNat)
include hoff

theorem State.hashCursor_off_le : s.hashCursor.off.toNat ≤ s.len.toNat := by
  by_cases hs : s.seq = .idle
  · rw [State.hashCursor_of_idle hs]
    exact Nat.zero_le _
  · rw [State.hashCursor_of_running hs]
    exact hoff hs

/-- With the message in MSG and the cursor in the message, a `do` of HASH finds the bytes it reads. -/
theorem exec_hash_step (hfits : s.len.toNat ≤ s.msgSize) {i : Instr} {phase : SeqPhase}
    (hmove : w.move s = .step i phase) :
    s.hashCursor.off.toNat + bytesRead i ≤ s.len.toNat ∧
      exec w.hash s = .next ((primitiveEffect i s.hashCursor).setSeq phase) := by
  obtain ⟨hi, -, hleft⟩ := Width.move_eq_step hmove
  have hcursor := State.hashCursor_off_le hoff
  have hlen := s.hashCursor_datapath.len_eq
  have hsize := s.hashCursor_datapath.msgSize_eq
  rw [State.remaining_toNat (by rw [hlen]; exact hcursor), hlen] at hleft
  have hread : s.hashCursor.readCheck (bytesRead i) = none :=
    State.readCheck_none_of_le (by rw [hlen]; omega) (by rw [hsize]; omega)
  have hcheck : primitiveCheck i s.hashCursor = none := by
    rw [primitiveCheck_of_schedule hi, hread, ite_self]
  exact ⟨by omega, by rw [exec_hash, hmove, HashMove.outcome_step hcheck]⟩

/-- So a core step of HASH is a `do` of its schedule or the last `do`, and neither faults. -/
theorem exec_hash_of_inRange (hfits : s.len.toNat ≤ s.msgSize) :
    (∃ i ∈ w.schedule, ∃ phase, s.hashCursor.off.toNat + bytesRead i ≤ s.len.toNat ∧
      exec w.hash s = .next ((primitiveEffect i s.hashCursor).setSeq phase)) ∨
    (s.off = s.len ∧ exec w.hash s = .next (primitiveEffect w.accAval s).complete) := by
  cases hmove : w.move s with
  | lenRange => exact absurd (Width.msgSize_lt_of_lenRange hmove) (Nat.not_lt.2 hfits)
  | step i phase =>
    obtain ⟨hi, -, -⟩ := Width.move_eq_step hmove
    exact .inl ⟨i, hi, phase, exec_hash_step w hoff hfits hmove⟩
  | last i =>
    obtain ⟨rfl, hs, hleft⟩ := Width.move_eq_last hmove
    obtain ⟨hexec, -⟩ := exec_hash_last w hs hleft
    exact .inr ⟨State.remaining_eq_zero.1 hleft, hexec⟩

end

/-! ### What keeps the invariant -/

theorem Cause.code_bounds (c : Cause) : 1 ≤ c.code.toNat ∧ c.code.toNat ≤ 5 := by
  cases c <;> decide

section
variable {s : State} (hinv : s.Inv)
include hinv

theorem State.Inv.fault_of_busy (hbusy : s.status.busy = true) : s.status.fault = false :=
  hinv.busy_not_fault hbusy

theorem State.Inv.idle_of_not_busy (hbusy : s.status.busy = false) : s.seq = .idle := by
  by_contra hrun
  obtain ⟨hbusy', -⟩ := hinv.seq_running hrun
  rw [hbusy] at hbusy'
  cases hbusy'

theorem State.Inv.setInputs (rest : List Event) : (s.setInputs rest).Inv := { hinv with }

theorem State.Inv.setResponse (r : Option Response) : (s.setResponse r).Inv := { hinv with }

theorem State.Inv.setDraws (n : Nat) : (s.setDraws n).Inv := { hinv with }

theorem State.Inv.refuse : s.refuse.Inv := { hinv with }

theorem State.Inv.setSeed (v : Word) : (s.setSeed v).Inv := { hinv with }

theorem State.Inv.datapath {t : State} (ht : s.DatapathOnly t) (hoff : t.off.toNat ≤ t.len.toNat) :
    t.Inv := by
  obtain ⟨_, _, _, _, _, rfl⟩ := ht
  exact { hinv with off_le_len := hoff }

theorem State.Inv.complete (hfault : s.status.fault = false) : s.complete.Inv :=
  { hinv with
    busy_not_fault := fun _ => hfault
    done_not_running := fun _ => ⟨rfl, hfault⟩
    seq_running := fun h => absurd rfl h }

theorem State.Inv.setSeq (phase : SeqPhase) (hbusy : s.status.busy = true)
    (hpend : s.pend = 0x010 ∨ s.pend = 0x110) (hfits : s.len.toNat ≤ s.msgSize) :
    (s.setSeq phase).Inv :=
  { hinv with seq_running := fun _ => ⟨hbusy, hpend, hfits⟩ }

theorem State.Inv.takeFault (r : Raise) : (s.takeFault r).Inv :=
  { hinv with
    busy_not_fault := nofun
    done_not_running := nofun
    seq_running := fun h => absurd rfl h
    no_fault_no_record := nofun
    fault_record := fun _ => ⟨r.cause.code_bounds.1, r.cause.code_bounds.2, hinv.pend_eq_cmd⟩ }

theorem State.Inv.softReset : s.softReset.Inv where
  off_le_len := Nat.le_refl _
  busy_not_fault := nofun
  done_not_running := nofun
  pend_eq_cmd := rfl
  seq_running := fun h => absurd rfl h
  no_fault_no_record := fun _ => ⟨rfl, rfl, rfl, rfl⟩
  fault_record := nofun
  msg_wf := hinv.msg_wf
  msg_inRange := hinv.msg_inRange
  msgSize_bounds := hinv.msgSize_bounds

theorem State.Inv.hardReset : s.hardReset.Inv :=
  { hinv.softReset with msg_wf := rfl, msg_inRange := rfl }

theorem State.Inv.issue (v : Word) (hbusy : s.status.busy = false) (hfault : s.status.fault = false) :
    (s.issue v).Inv :=
  { hinv with
    busy_not_fault := fun _ => hfault
    done_not_running := nofun
    pend_eq_cmd := rfl
    seq_running := fun h => absurd (hinv.idle_of_not_busy hbusy) h
    fault_record := fun h => by cases hfault.symm.trans h }

theorem State.Inv.setLen (v : Word) (hbusy : s.status.busy = false) : ((s.setLen v).setOff 0).Inv :=
  { hinv with
    off_le_len := Nat.zero_le _
    seq_running := fun h => absurd (hinv.idle_of_not_busy hbusy) h }

theorem State.Inv.insert {a : Nat} (b : Byte) (ha : a < s.msgSize) :
    (s.setMsg (Memory.insert s.msg a b)).Inv :=
  { hinv with
    msg_wf := Memory.insert_wf _ a b hinv.msg_wf
    msg_inRange := Memory.insert_inRange _ a _ b ha hinv.msg_inRange }

/-! ### The steps -/

theorem State.Inv.hostAct (op : HostOp) : (s.hostAct op).Inv := by
  obtain ⟨t, r, hact, ht⟩ := s.hostAct_cases op
  suffices t.Inv from hact ▸ this.setResponse r
  obtain rfl | rfl | rfl | ⟨rfl, -⟩ | ⟨hbusy, hwrite⟩ := ht
  · exact hinv.refuse
  · exact hinv
  · exact hinv.setDraws _
  · exact hinv.softReset
  · obtain ⟨hfault, v, rfl⟩ | ⟨v, rfl⟩ | ⟨_, v, -, -, rfl⟩ | ⟨a, b, ha, rfl⟩ := hwrite
    · exact hinv.issue v hbusy hfault
    · exact hinv.setSeed v
    · exact hinv.setLen v hbusy
    · exact hinv.insert b ha

theorem State.Inv.exec_primitive {i : Instr} {t : State} (hi : isHash i = false)
    (hbusy : s.status.busy = true) (h : exec i s = .next t) : t.Inv := by
  obtain ⟨hcheck, rfl⟩ | ⟨r, -, rfl⟩ := exec_primitive_cases hi h
  · have heffect := hinv.datapath (primitiveEffect_datapath i s) (offAfter_le_len hcheck hinv.off_le_len)
    exact heffect.complete (hinv.fault_of_busy hbusy)
  · exact hinv.takeFault r

/-- The invariant after a `do` of HASH at `s`. -/
theorem State.Inv.hash_do {t : State} (phase : SeqPhase) (ht : s.DatapathOnly t)
    (hoff : t.off.toNat ≤ s.len.toNat) (hbusy : s.status.busy = true)
    (hpend : s.pend = 0x010 ∨ s.pend = 0x110) (hfits : s.len.toNat ≤ s.msgSize) :
    (t.setSeq phase).Inv := by
  have hinv' := hinv.datapath ht (by rwa [ht.len_eq])
  exact hinv'.setSeq phase (by rw [ht.status_eq, hbusy]) (by rwa [ht.pend_eq])
    (by rwa [ht.len_eq, ht.msgSize_eq])

theorem State.Inv.exec_hash {w : Width} {t : State} (hbusy : s.status.busy = true)
    (hpend : s.pend = encode w.hash) (h : exec w.hash s = .next t) : t.Inv := by
  by_cases hfits : s.len.toNat ≤ s.msgSize
  case pos =>
    have hword : s.pend = 0x010 ∨ s.pend = 0x110 := by
      cases w
      · exact .inl hpend
      · exact .inr hpend
    obtain ⟨i, hi, phase, hread, hexec⟩ | ⟨hend, hexec⟩ :=
      exec_hash_of_inRange w (fun _ => hinv.off_le_len) hfits
    case inl =>
      cases hexec.symm.trans h
      have hcursor := s.hashCursor_datapath
      have hreset : i ≠ .curReset := fun hi' => curReset_not_mem_schedule w (hi' ▸ hi)
      refine hinv.hash_do phase (hcursor.trans (primitiveEffect_datapath i _)) ?_ hbusy hword hfits
      rw [primitiveEffect_off, offAfter_toNat hreset (by rwa [hcursor.len_eq])]
      exact hread
    case inr =>
      cases hexec.symm.trans h
      have hcheck := primitiveCheck_accAval w (State.remaining_eq_zero.2 hend)
      have heffect := hinv.datapath (primitiveEffect_datapath w.accAval s)
        (offAfter_le_len hcheck hinv.off_le_len)
      exact heffect.complete (hinv.fault_of_busy hbusy)
  case neg =>
    have hidle : s.seq = .idle := by
      by_contra hrun
      obtain ⟨-, -, hfits'⟩ := hinv.seq_running hrun
      exact hfits hfits'
    rw [Machine.exec_hash, Width.move_lenRange hidle (Nat.not_le.1 hfits)] at h
    cases h
    exact hinv.takeFault _

theorem State.Inv.coreTurn {t : State} (hbusy : s.status.busy = true) (h : coreTurn s = .next t) :
    t.Inv := by
  rw [Machine.coreTurn] at h
  cases hd : decode s.fetchWord with
  | rejected why =>
    rw [hd] at h
    cases h
    exact hinv.takeFault _
  | instr i =>
    rw [hd] at h
    cases hi : isHash i with
    | false => exact hinv.exec_primitive hi hbusy h
    | true =>
      obtain ⟨w, rfl⟩ := exists_width_of_isHash hi
      exact hinv.exec_hash hbusy (decode_eq_instr_iff.1 hd) h

theorem State.Inv.step {t : State} (h : step s = .next t) : t.Inv := by
  have turnInv : ∀ {turn u}, s.nextTurn = (turn, u) → u.Inv := fun hturn => by
    obtain ⟨hu, -⟩ := State.nextTurn_spec hturn
    exact hu ▸ hinv.setInputs _
  obtain ⟨u, hturn, hstep⟩ | ⟨op, u, hturn, hstep⟩ | ⟨u, hturn, hstep⟩ | ⟨u, hturn, hstep⟩ :=
    step_cases s
  case inl =>
    obtain ⟨hu, hbusy, -⟩ := State.nextTurn_spec hturn
    have hubusy : u.status.busy = true := by
      rw [hu]
      exact hbusy rfl
    exact (turnInv hturn).coreTurn hubusy (hstep.symm.trans h)
  case inr.inl =>
    cases hstep.symm.trans h
    exact (turnInv hturn).hostAct op
  case inr.inr.inl =>
    cases hstep.symm.trans h
    exact (turnInv hturn).hardReset
  case inr.inr.inr =>
    cases hstep.symm.trans h
    exact turnInv hturn

end

theorem State.reset_inv : State.reset.Inv where
  off_le_len := Nat.le_refl _
  busy_not_fault := nofun
  done_not_running := nofun
  pend_eq_cmd := rfl
  seq_running := fun h => absurd rfl h
  no_fault_no_record := fun _ => ⟨rfl, rfl, rfl, rfl⟩
  fault_record := nofun
  msg_wf := State.reset_msg_wf
  msg_inRange := rfl
  msgSize_bounds := ⟨Config.msgSize_ge, Config.msgSize_le⟩

end Sys2Proof.Machine

namespace Sys2Proof

open Machine

/-- Settles O49. -/
theorem resetMeetsTheInvariant : Obligations.ResetMeetsTheInvariant := State.reset_inv

/-- Settles O50: the core's turn, a host operation, the reset input, or nothing. -/
theorem everyStepKeepsTheInvariant : Obligations.EveryStepKeepsTheInvariant :=
  fun _ _ hinv h => hinv.step h

/-- Settles O51: past its start HASH performs a `do`, which keeps STATUS, or its last one. -/
theorem hashNeverFaultsAfterItsStart : Obligations.HashNeverFaultsAfterItsStart := by
  intro i s t hinv hi hrun h
  obtain ⟨w, rfl⟩ := exists_width_of_isHash hi
  obtain ⟨hbusy, -, hfits⟩ := hinv.seq_running hrun
  have hfault := hinv.fault_of_busy hbusy
  obtain ⟨i, -, phase, -, hexec⟩ | ⟨hend, hexec⟩ :=
    exec_hash_of_inRange w (fun _ => hinv.off_le_len) hfits
  case inl =>
    cases hexec.symm.trans h
    have hstatus := (s.hashCursor_datapath.trans (primitiveEffect_datapath i _)).status_eq
    rw [State.setSeq_status, hstatus]
    exact ⟨hfault, .inl hbusy⟩
  case inr =>
    cases hexec.symm.trans h
    have hoff : offAfter w.accAval s = s.off := by cases w <;> rfl
    exact ⟨hfault, .inr ⟨rfl, hoff.trans hend⟩⟩

end Sys2Proof
end

section
/-! HASH against the reference functions (44_oneshot.md R201, R202, R208): both widths as operations on
64-bit registers, and what is still to come of the digest at each position of the sequence. -/

namespace Sys2Proof.Machine

/-! ### 32-bit operations on 64-bit registers (10_state.md R38) -/

@[simp] theorem lo32_zext64 (v : Word32) : lo32 (zext64 v) = v := by
  apply BitVec.eq_of_toNat_eq
  simp only [lo32, zext64, BitVec.toNat_setWidth]
  omega

@[simp] theorem lo32_ofNat (n : Nat) : lo32 (BitVec.ofNat 64 n) = BitVec.ofNat 32 n :=
  BitVec.setWidth_ofNat_of_le (by decide) n

@[simp] theorem map_lo32_map_zext64 (l : Lanes Word32) : (l.map zext64).map lo32 = l := by
  simp [Lanes.map]

/-- A 32-bit operation on two registers: their low halves in, the result zero-extended. -/
def onLow (f : Word32 → Word32 → Word32) (a v : Word) : Word := zext64 (f (lo32 a) (lo32 v))

/-! ### The operations of a width -/

def Width.initLanes (seed : Word) : Width → Lanes Word
  | .narrow => (initLanes32 (lo32 seed)).map zext64
  | .wide => initLanes64 seed

def Width.round : Width → Word → Word → Word
  | .narrow => onLow round32
  | .wide => round64

def Width.converge (l : Lanes Word) : Width → Word
  | .narrow => zext64 (converge32 (l.map lo32))
  | .wide => converge64 l

def Width.seedAcc (seed : Word) : Width → Word
  | .narrow => zext64 (lo32 seed + P5_32)
  | .wide => seed + P5_64

def Width.addLen (acc len : Word) : Width → Word
  | .narrow => zext64 (lo32 acc + lo32 len)
  | .wide => acc + len

def Width.aval (acc : Word) : Width → Word
  | .narrow => zext64 (aval32 (lo32 acc))
  | .wide => aval64 acc

/-- The fold of a tail command (42_tail.md R164 to R168). -/
def foldOf : Instr → Word → Word → Word
  | .tail8W64 => fold8W64
  | .tail4W32 => onLow fold4W32
  | .tail4W64 => fold4W64
  | .tail1W32 => onLow fold1W32
  | .tail1W64 => fold1W64
  | _ => fun acc _ => acc

/-! ### The commands in those operations -/

section
variable (w : Width) (s : State)

theorem lanesAfter_laneInit : lanesAfter w.laneInit s = w.initLanes s.seed := by
  cases w <;> rfl

theorem lanesAfter_laneStripe :
    lanesAfter w.laneStripe s =
      Lanes.zipWith w.round s.lanes ((s.slots w.slot).map (BitVec.ofNat 64)) := by
  cases w with
  | narrow =>
    simp only [Width.laneStripe, lanesAfter, Width.round, Width.slot, Lanes.zipWith, Lanes.map, onLow,
      lo32_ofNat, State.lanes32]
  | wide => rfl

theorem accAfter_laneConv : accAfter w.laneConv s = w.converge s.lanes := by
  cases w <;> rfl

theorem accAfter_accSeed : accAfter w.accSeed s = w.seedAcc s.seed := by
  cases w <;> rfl

theorem accAfter_accLen : accAfter w.accLen s = w.addLen s.acc s.len := by
  cases w <;> rfl

theorem accAfter_accAval : accAfter w.accAval s = w.aval s.acc := by
  cases w <;> rfl

theorem digestAfter_accAval : digestAfter w.accAval s = w.aval s.acc := by
  cases w <;> rfl

variable {w}

theorem accAfter_tail {i : Instr} (hi : i ∈ w.tails) :
    accAfter i s = foldOf i s.acc (BitVec.ofNat 64 (s.atCursor (bytesRead i))) := by
  have hfolds : i ∈ [Instr.tail8W64, .tail4W32, .tail4W64, .tail1W32, .tail1W64] := by
    have hall : ∀ i ∈ w.tails, i ∈ [Instr.tail8W64, .tail4W32, .tail4W64, .tail1W32, .tail1W64] := by
      cases w <;> decide
    exact hall i hi
  cases i
  case tail8W64 | tail4W64 | tail1W64 => rfl
  case tail4W32 | tail1W32 => simp only [accAfter, foldOf, onLow, lo32_ofNat, State.acc32, bytesRead]
  all_goals exact absurd hfolds (by decide)

end

/-! ### The bytes at the cursor of a written message (20_memory.md R61, R66) -/

theorem group_succ {m : List Byte} {a : Nat} (h : a < m.length) (n : Nat) :
    group m a (n + 1) = m[a].toNat + 256 * group m (a + 1) n := by
  rw [group, List.drop_eq_getElem_cons h, List.take_succ_cons, leValue, group]

theorem group_drop (m : List Byte) (o i k : Nat) : group (m.drop o) i k = group m (o + i) k := by
  rw [group, List.drop_drop, group]

section
variable {s : State} {m : List Byte} (h : s.Holds m)
include h

theorem State.memRead_of_holds {a n : Nat} (hread : a + n ≤ m.length) (draw : Nat) :
    s.memRead a draw n = group m a n := by
  induction n generalizing a draw with
  | zero => simp [State.memRead, group, leValue]
  | succ n ih =>
    rw [State.memRead, State.byteAt_written (h a (by omega)), ih (by omega), group_succ]

theorem State.atCursor_of_holds {n : Nat} (hread : s.off.toNat + n ≤ m.length) :
    s.atCursor n = group (m.drop s.off.toNat) 0 n := by
  rw [State.atCursor, State.memRead_of_holds h hread, group_drop, Nat.add_zero]

theorem State.slots_of_holds {k : Nat} (hread : s.off.toNat + 4 * k ≤ m.length) :
    s.slots k = ⟨group (m.drop s.off.toNat) 0 k, group (m.drop s.off.toNat) k k,
      group (m.drop s.off.toNat) (2 * k) k, group (m.drop s.off.toNat) (3 * k) k⟩ := by
  simp only [State.slots, group_drop, Nat.add_zero]
  rw [State.memRead_of_holds h (by omega), State.memRead_of_holds h (by omega),
    State.memRead_of_holds h (by omega), State.memRead_of_holds h (by omega)]

end

/-! ### The sequence on a list of bytes, from each of its positions on -/

/-- The tail schedule over the bytes left (42_tail.md R169). -/
def foldTail : List Instr → List Byte → Word → Word
  | [], _, acc => acc
  | i :: rest, m, acc =>
    foldTail rest (m.drop (m.length / bytesRead i * bytesRead i))
      (refFolds (bytesRead i) (BitVec.ofNat 64) (foldOf i) (m.length / bytesRead i) m acc)

/-- The lanes after every whole stripe of the bytes left. -/
def Width.stripes (w : Width) (m : List Byte) (l : Lanes Word) : Lanes Word :=
  refStripes w.slot (BitVec.ofNat 64) w.round (m.length / (4 * w.slot)) m l

/-- The digest from the tail schedule on. -/
def Width.fromTail (w : Width) (m : List Byte) (acc : Word) : Word := w.aval (foldTail w.tails m acc)

/-- The digest from the length fold on. -/
def Width.fromLength (w : Width) (len : Word) (m : List Byte) (acc : Word) : Word :=
  w.fromTail m (w.addLen acc len)

/-- The digest from the stripe loop on. -/
def Width.fromStripes (w : Width) (len : Word) (m : List Byte) (l : Lanes Word) : Word :=
  w.fromLength len (m.drop (m.length / (4 * w.slot) * (4 * w.slot))) (w.converge (w.stripes m l))

/-- The digest from the start on. -/
def Width.fromStart (w : Width) (seed len : Word) (m : List Byte) : Word :=
  if 4 * w.slot ≤ m.length then w.fromStripes len m (w.initLanes seed)
  else w.fromLength len m (w.seedAcc seed)

/-! ### One move along the list -/

theorem Width.slot_pos (w : Width) : 0 < 4 * w.slot := by cases w <;> decide

section
variable {m : List Byte} {k : Nat}

theorem drop_multiples (hk : 0 < k) (h : k ≤ m.length) :
    m.drop (m.length / k * k) = (m.drop k).drop ((m.drop k).length / k * k) := by
  rw [List.length_drop, List.drop_drop, Nat.div_eq_sub_div hk h, Nat.succ_mul, Nat.add_comm]

theorem drop_multiples_of_lt (h : m.length < k) : m.drop (m.length / k * k) = m := by
  rw [Nat.div_eq_of_lt h, Nat.zero_mul, List.drop_zero]

end

section
variable {w : Width} {m : List Byte}

/-- The lanes after the first stripe of `m`. -/
def Width.firstStripe (w : Width) (m : List Byte) (l : Lanes Word) : Lanes Word :=
  ⟨w.round l.l1 (BitVec.ofNat 64 (group m 0 w.slot)),
    w.round l.l2 (BitVec.ofNat 64 (group m w.slot w.slot)),
    w.round l.l3 (BitVec.ofNat 64 (group m (2 * w.slot) w.slot)),
    w.round l.l4 (BitVec.ofNat 64 (group m (3 * w.slot) w.slot))⟩

theorem Width.stripes_of_le (h : 4 * w.slot ≤ m.length) (l : Lanes Word) :
    w.stripes m l = w.stripes (m.drop (4 * w.slot)) (w.firstStripe m l) := by
  rw [Width.stripes, Nat.div_eq_sub_div w.slot_pos h, refStripes, Width.stripes, List.length_drop,
    Width.firstStripe]

theorem Width.stripes_of_lt (h : m.length < 4 * w.slot) (l : Lanes Word) : w.stripes m l = l := by
  rw [Width.stripes, Nat.div_eq_of_lt h, refStripes]

theorem Width.fromStripes_of_le (h : 4 * w.slot ≤ m.length) (len : Word) (l : Lanes Word) :
    w.fromStripes len m l = w.fromStripes len (m.drop (4 * w.slot)) (w.firstStripe m l) := by
  rw [Width.fromStripes, drop_multiples w.slot_pos h, Width.stripes_of_le h, Width.fromStripes]

theorem Width.fromStripes_of_lt (h : m.length < 4 * w.slot) (len : Word) (l : Lanes Word) :
    w.fromStripes len m l = w.fromLength len m (w.converge l) := by
  rw [Width.fromStripes, drop_multiples_of_lt h, Width.stripes_of_lt h]

end

section
variable {i : Instr} {folds : List Instr} {m : List Byte}

theorem foldTail_cons_of_le (hpos : 0 < bytesRead i) (h : bytesRead i ≤ m.length) (acc : Word) :
    foldTail (i :: folds) m acc = foldTail (i :: folds) (m.drop (bytesRead i))
      (foldOf i acc (BitVec.ofNat 64 (group m 0 (bytesRead i)))) := by
  rw [foldTail, drop_multiples hpos h, Nat.div_eq_sub_div hpos h, refFolds, foldTail, List.length_drop]

theorem foldTail_cons_of_lt (h : m.length < bytesRead i) (acc : Word) :
    foldTail (i :: folds) m acc = foldTail folds m acc := by
  rw [foldTail, drop_multiples_of_lt h, Nat.div_eq_of_lt h, refFolds]

/-- The fold a tail move names is the first the schedule does. -/
theorem foldTail_of_tailMove {aval : Instr} {phase : SeqPhase} (hpos : ∀ j ∈ folds, 0 < bytesRead j)
    (hmove : tailMove aval folds m.length = .step i phase) (acc : Word) :
    foldTail folds m acc = foldTail folds (m.drop (bytesRead i))
      (foldOf i acc (BitVec.ofNat 64 (group m 0 (bytesRead i)))) := by
  induction folds with
  | nil => cases hmove
  | cons j rest ih =>
    obtain ⟨hj, hrest⟩ := List.forall_mem_cons.1 hpos
    by_cases hle : bytesRead j ≤ m.length
    · cases (tailMove_cons_of_le hle).symm.trans hmove
      exact foldTail_cons_of_le hj hle acc
    · have hlt := Nat.not_le.1 hle
      have hshorter : (m.drop (bytesRead i)).length < bytesRead j :=
        Nat.lt_of_le_of_lt (by rw [List.length_drop]; omega) hlt
      rw [foldTail_cons_of_lt hlt, foldTail_cons_of_lt hshorter]
      exact ih hrest ((tailMove_cons_of_lt hlt).symm.trans hmove)

theorem foldTail_nil (folds : List Instr) (acc : Word) : foldTail folds [] acc = acc := by
  induction folds generalizing acc with
  | nil => rfl
  | cons i rest ih => rw [foldTail, List.drop_nil, ih, List.length_nil, Nat.zero_div, refFolds]

end

/-! ### The reference functions (44_oneshot.md R208) -/

theorem refStripes_onLow (k n : Nat) (round : Word32 → Word32 → Word32) (m : List Byte)
    (l : Lanes Word32) :
    refStripes k (BitVec.ofNat 64) (onLow round) n m (l.map zext64) =
      (refStripes k (BitVec.ofNat 32) round n m l).map zext64 := by
  induction n generalizing m l with
  | zero => rfl
  | succ n ih =>
    rw [refStripes, refStripes, ← ih]
    simp only [onLow, Lanes.map, lo32_zext64, lo32_ofNat]

theorem refFolds_onLow (k n : Nat) (fold : Word32 → Word32 → Word32) (m : List Byte) (acc : Word32) :
    refFolds k (BitVec.ofNat 64) (onLow fold) n m (zext64 acc) =
      zext64 (refFolds k (BitVec.ofNat 32) fold n m acc) := by
  induction n generalizing m acc with
  | zero => rfl
  | succ n ih =>
    rw [refFolds, refFolds, ← ih]
    simp only [onLow, lo32_zext64, lo32_ofNat]

theorem fromLength_narrow (n : Nat) (m : List Byte) (acc : Word32) :
    Width.narrow.fromLength (BitVec.ofNat 64 n) m (zext64 acc) =
      zext64 (aval32 (refFolds 1 (BitVec.ofNat 32) fold1W32 (m.drop (m.length / 4 * 4)).length
        (m.drop (m.length / 4 * 4))
        (refFolds 4 (BitVec.ofNat 32) fold4W32 (m.length / 4) m (acc + BitVec.ofNat 32 n)))) := by
  simp only [Width.fromLength, Width.fromTail, Width.addLen, Width.aval, Width.tails, foldTail, foldOf,
    bytesRead, lo32_zext64, lo32_ofNat, refFolds_onLow, Nat.div_one]

theorem fromLength_wide (n : Nat) (m : List Byte) (acc : Word) :
    Width.wide.fromLength (BitVec.ofNat 64 n) m acc =
      aval64 (refFolds 1 (BitVec.ofNat 64) fold1W64
        ((m.drop (m.length / 8 * 8)).drop ((m.drop (m.length / 8 * 8)).length / 4 * 4)).length
        ((m.drop (m.length / 8 * 8)).drop ((m.drop (m.length / 8 * 8)).length / 4 * 4))
        (refFolds 4 (BitVec.ofNat 64) fold4W64 ((m.drop (m.length / 8 * 8)).length / 4)
          (m.drop (m.length / 8 * 8))
          (refFolds 8 (BitVec.ofNat 64) fold8W64 (m.length / 8) m (acc + BitVec.ofNat 64 n)))) := by
  simp only [Width.fromLength, Width.fromTail, Width.addLen, Width.aval, Width.tails, foldTail, foldOf,
    bytesRead, Nat.div_one]

theorem fromStart_narrow (seed : Word) (m : List Byte) :
    Width.narrow.fromStart seed (BitVec.ofNat 64 m.length) m = zext64 (xxHash32 (lo32 seed) m) := by
  have hstripe : 4 * Width.narrow.slot = 16 := rfl
  rw [Width.fromStart, hstripe, xxHash32]
  split
  case isTrue h =>
    rw [Width.fromStripes, hstripe, Width.stripes, hstripe]
    simp only [Width.initLanes, Width.round, Width.slot, Width.converge, refStripes_onLow,
      map_lo32_map_zext64]
    exact fromLength_narrow _ _ _
  case isFalse h =>
    rw [drop_multiples_of_lt (Nat.not_le.1 h)]
    exact fromLength_narrow _ _ _

theorem fromStart_wide (seed : Word) (m : List Byte) :
    Width.wide.fromStart seed (BitVec.ofNat 64 m.length) m = xxHash64 seed m := by
  have hstripe : 4 * Width.wide.slot = 32 := rfl
  rw [Width.fromStart, hstripe, xxHash64]
  split
  case isTrue h => exact fromLength_wide _ _ _
  case isFalse h =>
    rw [drop_multiples_of_lt (Nat.not_le.1 h)]
    exact fromLength_wide _ _ _

end Sys2Proof.Machine
end

section
/-! A running HASH over a written message (44_oneshot.md sections 1 and 2): every core step keeps what the
run will give and comes nearer to its end. -/

namespace Sys2Proof.Machine

/-- HASH of this width runs over the written message `m`, its cursor in the message. -/
structure Width.Running (w : Width) (m : List Byte) (s : State) : Prop where
  busy : s.status.busy = true
  pend : s.pend = encode w.hash
  message : s.Message m
  fits : m.length ≤ s.msgSize
  off_le : s.seq ≠ .idle → s.off.toNat ≤ m.length

/-- The digest a running HASH will give, from where SEQ stands. -/
def Width.digestOf (w : Width) (m : List Byte) (s : State) : Word :=
  match s.seq with
  | .idle => w.fromStart s.seed s.len m
  | .stripes => w.fromStripes s.len (m.drop s.off.toNat) s.lanes
  | .lengthFold => w.fromLength s.len (m.drop s.off.toNat) s.acc
  | .tail => w.fromTail (m.drop s.off.toNat) s.acc

/-- The lanes a running HASH will leave. -/
def Width.lanesOf (w : Width) (m : List Byte) (s : State) : Lanes Word :=
  match s.seq with
  | .idle => if 4 * w.slot ≤ m.length then w.stripes m (w.initLanes s.seed) else s.lanes
  | .stripes => w.stripes (m.drop s.off.toNat) s.lanes
  | .lengthFold => s.lanes
  | .tail => s.lanes

/-- A bound on the core steps left. -/
def State.stepsLeft (m : List Byte) (s : State) : Nat :=
  match s.seq with
  | .idle => m.length + 4
  | .stripes => m.length - s.off.toNat + 3
  | .lengthFold => m.length - s.off.toNat + 2
  | .tail => m.length - s.off.toNat + 1

/-- A `do` of a running HASH at `s` leads to `t`: what the run will give is kept, and `t` is nearer to
the end. -/
structure Width.Continues (w : Width) (m : List Byte) (s t : State) : Prop where
  running : w.Running m t
  digest : w.digestOf m t = w.digestOf m s
  lanes : w.lanesOf m t = w.lanesOf m s
  nearer : t.stepsLeft m < s.stepsLeft m

section
variable {w : Width} {m : List Byte} {s : State} (h : w.Running m s)
include h

theorem Width.Running.len_toNat : s.len.toNat = m.length := h.message.1

theorem Width.Running.holds : s.Holds m := h.message.2

theorem Width.Running.len_eq : s.len = BitVec.ofNat 64 m.length := by
  rw [← h.len_toNat, BitVec.ofNat_toNat, BitVec.setWidth_eq]

/-- The bytes left are those of the message from OFF on. -/
theorem Width.Running.remaining_eq (hrun : s.seq ≠ .idle) :
    s.remaining.toNat = (m.drop s.off.toNat).length := by
  rw [State.remaining_toNat (by rw [h.len_toNat]; exact h.off_le hrun), h.len_toNat, List.length_drop]

/-- A `do` leaves HASH running, past the bytes it read. -/
theorem Width.Running.after_do {i : Instr} {phase : SeqPhase} (hmove : w.move s = .step i phase) :
    exec w.hash s = .next ((primitiveEffect i s.hashCursor).setSeq phase) ∧
      w.Running m ((primitiveEffect i s.hashCursor).setSeq phase) ∧
      (offAfter i s.hashCursor).toNat = s.hashCursor.off.toNat + bytesRead i := by
  obtain ⟨hi, -, -⟩ := Width.move_eq_step hmove
  obtain ⟨hread, hexec⟩ := exec_hash_step w (by rw [h.len_toNat]; exact h.off_le)
    (by rw [h.len_toNat]; exact h.fits) hmove
  have hreset : i ≠ .curReset := fun hi' => curReset_not_mem_schedule w (hi' ▸ hi)
  have hcursor := s.hashCursor_datapath
  have hoff := offAfter_toNat hreset (s := s.hashCursor) (by rwa [hcursor.len_eq])
  have ht := hcursor.trans (primitiveEffect_datapath i s.hashCursor)
  refine ⟨hexec, ⟨?_, ?_, ?_, ?_, fun _ => ?_⟩, hoff⟩
  · rw [State.setSeq_status, ht.status_eq, h.busy]
  · rw [State.setSeq_pend, ht.pend_eq, h.pend]
  · rw [State.Message, State.Holds, State.setSeq_len, State.setSeq_msg, ht.len_eq, ht.msg_eq]
    exact h.message
  · rw [State.setSeq_msgSize, ht.msgSize_eq]
    exact h.fits
  · rw [State.setSeq_off, primitiveEffect_off, hoff, ← h.len_toNat]
    exact hread

/-! ### The moves, one phase at a time -/

theorem Width.Running.continues_long (hs : s.seq = .idle) (hle : 4 * w.slot ≤ m.length) :
    ∃ i phase, w.move s = .step i phase ∧
      w.Continues m s ((primitiveEffect i s.hashCursor).setSeq phase) := by
  have hmove : w.move s = .step w.laneInit .stripes :=
    Width.move_long hs (by rw [h.len_toNat]; exact h.fits) (by rwa [h.len_toNat])
  obtain ⟨-, hrunning, hoff⟩ := h.after_do hmove
  have hreads : bytesRead w.laneInit = 0 := by cases w <;> rfl
  have hzero : (offAfter w.laneInit s.hashCursor).toNat = 0 := by
    rw [hoff, hreads, State.hashCursor_of_idle hs]
    rfl
  refine ⟨w.laneInit, .stripes, hmove, hrunning, ?_, ?_, ?_⟩
  · simp [Width.digestOf, hs, Width.fromStart, hle, lanesAfter_laneInit, hzero]
  · simp [Width.lanesOf, hs, hle, lanesAfter_laneInit, hzero]
  · simp [State.stepsLeft, hs, hzero]

theorem Width.Running.continues_short (hs : s.seq = .idle) (hlt : m.length < 4 * w.slot) :
    ∃ i phase, w.move s = .step i phase ∧
      w.Continues m s ((primitiveEffect i s.hashCursor).setSeq phase) := by
  have hmove : w.move s = .step w.accSeed .lengthFold :=
    Width.move_short hs (by rw [h.len_toNat]; exact h.fits) (by rwa [h.len_toNat])
  obtain ⟨-, hrunning, hoff⟩ := h.after_do hmove
  have hreads : bytesRead w.accSeed = 0 := by cases w <;> rfl
  have hzero : (offAfter w.accSeed s.hashCursor).toNat = 0 := by
    rw [hoff, hreads, State.hashCursor_of_idle hs]
    rfl
  have hlanes : lanesAfter w.accSeed s.hashCursor = s.hashCursor.lanes := by cases w <;> rfl
  refine ⟨w.accSeed, .lengthFold, hmove, hrunning, ?_, ?_, ?_⟩
  · simp [Width.digestOf, hs, Width.fromStart, Nat.not_le.2 hlt, accAfter_accSeed, hzero]
  · simp [Width.lanesOf, hs, Nat.not_le.2 hlt, hlanes]
  · simp [State.stepsLeft, hs, hzero]

theorem Width.Running.continues_stripe (hs : s.seq = .stripes)
    (hle : 4 * w.slot ≤ (m.drop s.off.toNat).length) :
    ∃ i phase, w.move s = .step i phase ∧
      w.Continues m s ((primitiveEffect i s.hashCursor).setSeq phase) := by
  have hrun : s.seq ≠ .idle := by rw [hs]; decide
  have hmove : w.move s = .step w.laneStripe .stripes :=
    Width.move_stripe hs (by rwa [h.remaining_eq hrun])
  obtain ⟨-, hrunning, hoff⟩ := h.after_do hmove
  rw [State.hashCursor_of_running hrun] at hrunning hoff ⊢
  rw [bytesRead_laneStripe] at hoff
  have hend : s.off.toNat + 4 * w.slot ≤ m.length := by
    have hbefore := h.off_le hrun
    rw [List.length_drop] at hle
    omega
  have hlanes : lanesAfter w.laneStripe s = w.firstStripe (m.drop s.off.toNat) s.lanes := by
    rw [lanesAfter_laneStripe, State.slots_of_holds h.holds hend]
    rfl
  refine ⟨w.laneStripe, .stripes, hmove, hrunning, ?_, ?_, ?_⟩
  · simp only [Width.digestOf, hs, State.setSeq_seq, State.setSeq_off, State.setSeq_len,
      State.setSeq_lanes, primitiveEffect_off, primitiveEffect_len, primitiveEffect_lanes, hlanes, hoff]
    rw [← List.drop_drop, ← Width.fromStripes_of_le hle]
  · simp only [Width.lanesOf, hs, State.setSeq_seq, State.setSeq_off, State.setSeq_lanes,
      primitiveEffect_off, primitiveEffect_lanes, hlanes, hoff]
    rw [← List.drop_drop, ← Width.stripes_of_le hle]
  · have hpos := w.slot_pos
    simp only [State.stepsLeft, hs, State.setSeq_seq, State.setSeq_off, primitiveEffect_off, hoff]
    omega

theorem Width.Running.continues_conv (hs : s.seq = .stripes)
    (hlt : (m.drop s.off.toNat).length < 4 * w.slot) :
    ∃ i phase, w.move s = .step i phase ∧
      w.Continues m s ((primitiveEffect i s.hashCursor).setSeq phase) := by
  have hrun : s.seq ≠ .idle := by rw [hs]; decide
  have hmove : w.move s = .step w.laneConv .lengthFold :=
    Width.move_conv hs (by rwa [h.remaining_eq hrun])
  obtain ⟨-, hrunning, -⟩ := h.after_do hmove
  rw [State.hashCursor_of_running hrun] at hrunning ⊢
  have hoff : offAfter w.laneConv s = s.off := by cases w <;> rfl
  have hlanes : lanesAfter w.laneConv s = s.lanes := by cases w <;> rfl
  refine ⟨w.laneConv, .lengthFold, hmove, hrunning, ?_, ?_, ?_⟩
  · simp [Width.digestOf, hs, accAfter_laneConv, hoff, Width.fromStripes_of_lt hlt]
  · simp [Width.lanesOf, hs, hlanes, Width.stripes_of_lt hlt]
  · simp [State.stepsLeft, hs, hoff]

theorem Width.Running.continues_length (hs : s.seq = .lengthFold) :
    ∃ i phase, w.move s = .step i phase ∧
      w.Continues m s ((primitiveEffect i s.hashCursor).setSeq phase) := by
  have hmove : w.move s = .step w.accLen .tail := Width.move_lengthFold hs
  obtain ⟨-, hrunning, -⟩ := h.after_do hmove
  rw [State.hashCursor_of_running (by rw [hs]; decide)] at hrunning ⊢
  have hoff : offAfter w.accLen s = s.off := by cases w <;> rfl
  have hlanes : lanesAfter w.accLen s = s.lanes := by cases w <;> rfl
  refine ⟨w.accLen, .tail, hmove, hrunning, ?_, ?_, ?_⟩
  · simp [Width.digestOf, hs, accAfter_accLen, hoff, Width.fromLength]
  · simp [Width.lanesOf, hs, hlanes]
  · simp [State.stepsLeft, hs, hoff]

theorem Width.Running.continues_tail (hs : s.seq = .tail) {i : Instr} {phase : SeqPhase}
    (hmove : w.move s = .step i phase) :
    w.Continues m s ((primitiveEffect i s.hashCursor).setSeq phase) := by
  have hrun : s.seq ≠ .idle := by rw [hs]; decide
  obtain ⟨-, hrunning, hoff⟩ := h.after_do hmove
  rw [State.hashCursor_of_running hrun] at hrunning hoff ⊢
  rw [Width.move_tail hs, h.remaining_eq hrun] at hmove
  obtain ⟨hi, rfl, hread⟩ := tailMove_eq_step hmove
  have hpos : ∀ j ∈ w.tails, 0 < bytesRead j := by cases w <;> decide
  have hend : s.off.toNat + bytesRead i ≤ m.length := by
    have hbefore := h.off_le hrun
    rw [List.length_drop] at hread
    omega
  have hlanes : lanesAfter i s = s.lanes := by
    refine lanesAfter_kept (fun hmem => ?_) s
    have hnone : ∀ j ∈ w.tails, j ∉ [Instr.laneInit32, .laneInit64, .laneStripe32, .laneStripe64] := by
      cases w <;> decide
    exact hnone i hi hmem
  refine ⟨hrunning, ?_, ?_, ?_⟩
  · simp only [Width.digestOf, hs, State.setSeq_seq, State.setSeq_off, State.setSeq_acc,
      primitiveEffect_off, primitiveEffect_acc, hoff, accAfter_tail s hi, Width.fromTail]
    rw [State.atCursor_of_holds h.holds hend, ← List.drop_drop, ← foldTail_of_tailMove hpos hmove]
  · simp [Width.lanesOf, hs, hlanes]
  · have hpos' := hpos i hi
    simp only [State.stepsLeft, hs, State.setSeq_seq, State.setSeq_off, primitiveEffect_off, hoff]
    omega

/-- What a completed HASH leaves: the lanes, ACC, OFF and DIGEST. -/
theorem Width.Running.finishes (hs : s.seq = .tail) (hend : s.remaining = 0) :
    (primitiveEffect w.accAval s).datapath =
      (w.lanesOf m s, w.digestOf m s, s.len, w.digestOf m s) := by
  have hoff : s.off = s.len := State.remaining_eq_zero.1 hend
  have hnone : m.drop s.off.toNat = [] := by
    rw [hoff, h.len_toNat, List.drop_length]
  have hdigest : w.digestOf m s = w.aval s.acc := by
    simp only [Width.digestOf, hs, hnone, Width.fromTail, foldTail_nil]
  have hlanes : w.lanesOf m s = s.lanes := by simp only [Width.lanesOf, hs]
  have hkept : lanesAfter w.accAval s = s.lanes ∧ offAfter w.accAval s = s.off := by
    cases w <;> exact ⟨rfl, rfl⟩
  obtain ⟨hkeptLanes, hkeptOff⟩ := hkept
  simp only [State.datapath, primitiveEffect_lanes, primitiveEffect_acc, primitiveEffect_off,
    primitiveEffect_digest, accAfter_accAval, digestAfter_accAval, hkeptLanes, hkeptOff, hdigest, hlanes,
    hoff]

/-- Every core step of a running HASH continues it or completes it with its result. -/
theorem Width.Running.coreStep :
    (∃ t phase, s.DatapathOnly t ∧ exec w.hash s = .next (t.setSeq phase) ∧
      w.Continues m s (t.setSeq phase)) ∨
    (∃ t, s.DatapathOnly t ∧ exec w.hash s = .next t.complete ∧
      t.datapath = (w.lanesOf m s, w.digestOf m s, s.len, w.digestOf m s)) := by
  have ofDo : ∀ {i phase}, w.move s = .step i phase →
      w.Continues m s ((primitiveEffect i s.hashCursor).setSeq phase) →
      ∃ t phase, s.DatapathOnly t ∧ exec w.hash s = .next (t.setSeq phase) ∧
        w.Continues m s (t.setSeq phase) := by
    intro i phase hmove hcontinues
    obtain ⟨hexec, -⟩ := h.after_do hmove
    exact ⟨_, phase, s.hashCursor_datapath.trans (primitiveEffect_datapath i _), hexec, hcontinues⟩
  cases hs : s.seq with
  | idle =>
    by_cases hle : 4 * w.slot ≤ m.length
    · obtain ⟨i, phase, hmove, hcontinues⟩ := h.continues_long hs hle
      exact .inl (ofDo hmove hcontinues)
    · obtain ⟨i, phase, hmove, hcontinues⟩ := h.continues_short hs (Nat.not_le.1 hle)
      exact .inl (ofDo hmove hcontinues)
  | stripes =>
    by_cases hle : 4 * w.slot ≤ (m.drop s.off.toNat).length
    · obtain ⟨i, phase, hmove, hcontinues⟩ := h.continues_stripe hs hle
      exact .inl (ofDo hmove hcontinues)
    · obtain ⟨i, phase, hmove, hcontinues⟩ := h.continues_conv hs (Nat.not_le.1 hle)
      exact .inl (ofDo hmove hcontinues)
  | lengthFold =>
    obtain ⟨i, phase, hmove, hcontinues⟩ := h.continues_length hs
    exact .inl (ofDo hmove hcontinues)
  | tail =>
    cases hmove : w.move s with
    | lenRange =>
      exact absurd (Width.msgSize_lt_of_lenRange hmove)
        (Nat.not_lt.2 (by rw [h.len_toNat]; exact h.fits))
    | step i phase => exact .inl (ofDo hmove (h.continues_tail hs hmove))
    | last i =>
      obtain ⟨-, -, hend⟩ := Width.move_eq_last hmove
      obtain ⟨hexec, -⟩ := exec_hash_last w hs hend
      exact .inr ⟨_, primitiveEffect_datapath _ s, hexec, h.finishes hs hend⟩

end

end Sys2Proof.Machine
end

section
/-! One step of the block (20_memory.md R76, 40_cursor.md R112): whose turn it is, what the core's turn
runs, and O5, O6, O7, O43 and O44. -/

namespace Sys2Proof.Machine

/-! ### Whose turn it is -/

theorem State.setInputs_self {s : State} {l : List Event} (h : s.inputs = l) : s.setInputs l = s := by
  subst h
  rfl

theorem State.setInputs_setInputs (s : State) (l l' : List Event) :
    (s.setInputs l).setInputs l' = s.setInputs l' := rfl

/-- The core's turn comes when its event is next or no event is left (log 7). -/
def State.CoreNext (s : State) : Prop := s.inputs = [] ∨ ∃ rest, s.inputs = .core :: rest

theorem State.nextTurn_of_coreNext {s : State} (h : s.CoreNext) :
    s.nextTurn = (s.coreOrIdle, s.setInputs s.inputs.tail) := by
  obtain hin | ⟨rest, hin⟩ := h
  · rw [State.nextTurn, hin, List.tail_nil, State.setInputs_self hin]
  · rw [State.nextTurn, hin, List.tail_cons]

theorem State.coreOrIdle_of_busy {s : State} (h : s.status.busy = true) : s.coreOrIdle = .core :=
  if_pos h

theorem State.coreOrIdle_of_not_busy {s : State} (h : s.status.busy = false) :
    s.coreOrIdle = .idle :=
  if_neg (by rw [h]; decide)

/-- A host turn is the next event, or the poll of `wait` (log 17). -/
theorem State.inputs_of_hostTurn {s t : State} {op : HostOp} (h : s.nextTurn = (.host op, t)) :
    (∃ rest, s.inputs = .host op :: rest) ∨ op = .regRead HostReg.status.offset := by
  have hcore : s.coreOrIdle ≠ .host op := by
    rw [State.coreOrIdle]
    split <;> exact nofun
  rw [State.nextTurn] at h
  cases hin : s.inputs with
  | nil =>
    rw [hin] at h
    exact absurd (congrArg Prod.fst h) hcore
  | cons e rest =>
    rw [hin] at h
    cases e with
    | core => exact absurd (congrArg Prod.fst h) hcore
    | host op' =>
      cases h
      exact .inl ⟨rest, rfl⟩
    | hardReset => cases h
    | wait =>
      cases h
      exact .inr rfl

theorem State.inputs_of_resetTurn {s t : State} (h : s.nextTurn = (.hardReset, t)) :
    ∃ rest, s.inputs = .hardReset :: rest := by
  have hcore : s.coreOrIdle ≠ .hardReset := by
    rw [State.coreOrIdle]
    split <;> exact nofun
  rw [State.nextTurn] at h
  cases hin : s.inputs with
  | nil =>
    rw [hin] at h
    exact absurd (congrArg Prod.fst h) hcore
  | cons e rest =>
    rw [hin] at h
    cases e with
    | core => exact absurd (congrArg Prod.fst h) hcore
    | hardReset => exact ⟨rest, rfl⟩
    | host op => cases h
    | wait => cases h

/-! ### The step of each turn -/

section
variable {s t : State}

theorem step_of_core (h : s.nextTurn = (.core, t)) : step s = coreTurn t := by rw [step, h]

theorem step_of_idle (h : s.nextTurn = (.idle, t)) : step s = .next t := by rw [step, h]

theorem step_host {op : HostOp} {rest : List Event} (h : s.inputs = .host op :: rest) :
    step s = .next ((s.setInputs rest).hostAct op) := by
  rw [step, State.nextTurn, h]

theorem step_hardReset {rest : List Event} (h : s.inputs = .hardReset :: rest) :
    step s = .next (s.setInputs rest).hardReset := by
  rw [step, State.nextTurn, h]

theorem step_wait {rest : List Event} (h : s.inputs = .wait :: rest) :
    step s = .next ((s.setInputs (if s.status.busy then .core :: .wait :: rest else rest)).hostAct
      (.regRead HostReg.status.offset)) := by
  rw [step, State.nextTurn, h]

theorem coreTurn_of_instr {i : Instr} (h : decode s.pend = .instr i) : coreTurn s = exec i s := by
  rw [coreTurn, State.fetchWord, h]

/-- While BUSY = 1 the core's turn runs the command in PEND. -/
theorem step_of_coreNext {i : Instr} (hbusy : s.status.busy = true) (hcore : s.CoreNext)
    (hd : decode s.pend = .instr i) : step s = exec i (s.setInputs s.inputs.tail) := by
  have hturn := State.nextTurn_of_coreNext hcore
  rw [State.coreOrIdle_of_busy hbusy] at hturn
  rw [step_of_core hturn]
  exact coreTurn_of_instr hd

end

/-- A command word just placed runs at once (log 9). -/
theorem State.step_placed (s : State) {v : Word} {i : Instr} (hd : decode v = .instr i) :
    step (((s.issue v).setSeq .idle).setInputs (.core :: s.inputs)) =
      exec i { s with
        cmd := v, pend := v, seq := .idle, status := { s.status with busy := true, done := false } } := by
  have hstep := step_of_coreNext (s := ((s.issue v).setSeq .idle).setInputs (.core :: s.inputs)) rfl
    (.inr ⟨s.inputs, rfl⟩) hd
  rw [State.setInputs_inputs, List.tail_cons, State.setInputs_setInputs] at hstep
  exact hstep

/-- Reading STATUS has no other effect than the response. -/
theorem State.hostAct_readStatus (s : State) :
    s.hostAct (.regRead HostReg.status.offset) = s.setResponse (some (.word s.status.word)) := by
  simp [State.hostAct, State.regRead, HostReg.unstableWhileBusy, State.regValue]

theorem coreTurn_next (s : State) : ∃ t, coreTurn s = .next t := by
  rw [coreTurn]
  cases decode s.fetchWord with
  | instr i =>
    obtain ⟨t, h, -⟩ := exec_next i s
    exact ⟨t, h⟩
  | rejected why => exact ⟨_, rfl⟩

theorem step_next (s : State) : ∃ t, step s = .next t := by
  obtain ⟨u, -, h⟩ | ⟨op, u, -, h⟩ | ⟨u, -, h⟩ | ⟨u, -, h⟩ := step_cases s
  · rw [h]
    exact coreTurn_next u
  · exact ⟨_, h⟩
  · exact ⟨_, h⟩
  · exact ⟨_, h⟩

end Sys2Proof.Machine

namespace Sys2Proof

open Machine

/-- Settles O5: the core's turn in general, and at a command just placed. -/
theorem coreTurnRunsThePendingCommand : Obligations.CoreTurnRunsThePendingCommand := by
  refine ⟨fun s i hbusy hcore hd => step_of_coreNext hbusy hcore hd, fun s i => ?_⟩
  have hword : BitVec.ofNat 64 ((encode i).toNat % 2 ^ 64) = encode i := by
    rw [Nat.mod_eq_of_lt (encode i).isLt, BitVec.ofNat_toNat, BitVec.setWidth_eq]
  rw [State.withFetchWord, hword]
  exact s.step_placed (decode_eq_instr_iff.2 rfl)

/-- Settles O6, one clause per event. -/
theorem eachEventIsOneStep : Obligations.EachEventIsOneStep := by
  refine ⟨fun s op rest h => step_host h, fun s rest h => step_hardReset h,
    fun s rest hbusy h => ?idleCore, fun s hbusy h => ?idle, fun s rest h => ?wait⟩
  case idleCore =>
    have hturn := State.nextTurn_of_coreNext (.inr ⟨rest, h⟩)
    rw [State.coreOrIdle_of_not_busy hbusy, h] at hturn
    exact step_of_idle hturn
  case idle =>
    have hturn := State.nextTurn_of_coreNext (.inl h)
    rw [State.coreOrIdle_of_not_busy hbusy, h, List.tail_nil, State.setInputs_self h] at hturn
    exact step_of_idle hturn
  case wait =>
    rw [step_wait h, State.hostAct_readStatus]
    rfl

/-- Settles O7. -/
theorem everyStepGoesOn : Obligations.EveryStepGoesOn :=
  ⟨fun i s => (exec_next i s).imp fun _ ⟨hexec, _⟩ => hexec, step_next⟩

/-- Settles O43: the event of each reset is the reset itself. -/
theorem resetsClearEverythingButTheMessage : Obligations.ResetsClearEverythingButTheMessage := by
  rintro s cleared rfl
  refine ⟨fun rest h => step_hardReset h, fun rest v h hv => ?soft⟩
  rw [step_host h, State.hostAct, show (0x08 : Word) = HostReg.ctrl.offset from rfl, State.regWrite_ctrl,
    if_pos hv]
  rfl

/-- Settles O44. -/
theorem resetStateValues : Obligations.ResetStateValues := by
  rintro s rfl
  exact ⟨rfl, rfl, rfl, rfl, rfl, rfl, rfl, rfl, rfl, rfl, rfl, rfl, rfl, fun _ => rfl,
    Config.msgSize_ge, Config.msgSize_le⟩

end Sys2Proof
end

section
/-! What a host operation short of a reset can do, and what the block keeps meanwhile (20_memory.md R74,
60_exceptions.md R231, R232): O45, O46, O47 and O48. -/

namespace Sys2Proof.Machine

/-- A host operation that is no soft reset: HERR, nothing, a draw, or, while BUSY = 0, one write. -/
theorem State.hostAct_harmless (s : State) {op : HostOp} (hop : (Event.host op).abandons = false) :
    ∃ (t : State) (r : Option Response), s.hostAct op = t.setResponse r ∧
      (t = s.refuse ∨ t = s ∨ t = s.setDraws (s.draws + 1) ∨
        (s.status.busy = false ∧
          ((s.status.fault = false ∧ ∃ v, t = s.issue v) ∨ (∃ v, t = s.setSeed v) ∨
            (∃ v, op = .regWrite HostReg.len.offset v ∧ t = (s.setLen v).setOff 0) ∨
            ∃ a b, t = s.setMsg (Memory.insert s.msg a b)))) := by
  obtain ⟨t, r, hact, ht⟩ := s.hostAct_cases op
  refine ⟨t, r, hact, ?_⟩
  obtain h | h | h | ⟨-, off, v, rfl, hslot, hv⟩ | ⟨hbusy, hwrite⟩ := ht
  case inl => exact .inl h
  case inr.inl => exact .inr (.inl h)
  case inr.inr.inl => exact .inr (.inr (.inl h))
  case inr.inr.inr.inl =>
    rw [Event.abandons, hslot, hv] at hop
    exact absurd hop (by decide)
  case inr.inr.inr.inr =>
    refine .inr (.inr (.inr ⟨hbusy, ?_⟩))
    obtain h | h | ⟨off, v, rfl, hslot, rfl⟩ | ⟨a, b, -, h⟩ := hwrite
    · exact .inl h
    · exact .inr (.inl h)
    · exact .inr (.inr (.inl ⟨v, by rw [slotAt_reg hslot], rfl⟩))
    · exact .inr (.inr (.inr ⟨a, b, h⟩))

section
variable {s t : State} (h : s.NoResetNext)
include h

theorem State.NoResetNext.harmless {op : HostOp} (hturn : s.nextTurn = (.host op, t)) :
    (Event.host op).abandons = false := by
  obtain ⟨rest, hin⟩ | rfl := State.inputs_of_hostTurn hturn
  · exact h _ rest hin
  · rfl

theorem State.NoResetNext.not_hardReset (hturn : s.nextTurn = (.hardReset, t)) : False := by
  obtain ⟨rest, hin⟩ := State.inputs_of_resetTurn hturn
  cases h _ rest hin

end

theorem coreTurn_coreStep {s t : State} (h : coreTurn s = .next t) : s.CoreStep t := by
  rw [coreTurn] at h
  cases hd : decode s.fetchWord with
  | instr i =>
    rw [hd] at h
    exact exec_coreStep h
  | rejected why =>
    rw [hd] at h
    cases h
    exact ⟨s, .refl s, .inr (.inr ⟨_, rfl⟩)⟩

theorem State.CoreStep.herr_eq {s t : State} (h : s.CoreStep t) : t.status.herr = s.status.herr := by
  obtain ⟨u, ⟨_, _, _, _, _, rfl⟩, rfl | ⟨phase, rfl⟩ | ⟨r, rfl⟩⟩ := h <;> rfl

/-- No host operation short of a reset clears HERR. -/
theorem State.herr_hostAct (s : State) {op : HostOp} (hop : (Event.host op).abandons = false)
    (hherr : s.status.herr = true) : (s.hostAct op).status.herr = true := by
  obtain ⟨t, r, hact, ht⟩ := s.hostAct_harmless hop
  rw [hact, State.setResponse_status]
  obtain rfl | rfl | rfl | ⟨-, ⟨-, v, rfl⟩ | ⟨v, rfl⟩ | ⟨v, -, rfl⟩ | ⟨a, b, rfl⟩⟩ := ht
  · rfl
  all_goals exact hherr

end Sys2Proof.Machine

namespace Sys2Proof

open Machine

/-- Settles O45: neither a core step nor a host operation short of a reset clears HERR. -/
theorem herrIsSticky : Obligations.HerrIsSticky := by
  intro s t hherr hreset h
  have hturnHerr : ∀ {turn u}, s.nextTurn = (turn, u) → u.status.herr = true := fun hturn => by
    obtain ⟨hu, -⟩ := State.nextTurn_spec hturn
    rw [hu]
    exact hherr
  obtain ⟨u, hturn, hstep⟩ | ⟨op, u, hturn, hstep⟩ | ⟨u, hturn, hstep⟩ | ⟨u, hturn, hstep⟩ :=
    step_cases s
  case inl =>
    rw [(coreTurn_coreStep (hstep.symm.trans h)).herr_eq]
    exact hturnHerr hturn
  case inr.inl =>
    cases hstep.symm.trans h
    exact u.herr_hostAct (hreset.harmless hturn) (hturnHerr hturn)
  case inr.inr.inl => exact (hreset.not_hardReset hturn).elim
  case inr.inr.inr =>
    cases hstep.symm.trans h
    exact hturnHerr hturn

/-- Settles O46: with BUSY = 0 the core has no turn, and with FAULT = 1 no command is accepted. -/
theorem haltedUntilReset : Obligations.HaltedUntilReset := by
  intro s t hfault hbusy hreset h
  obtain ⟨u, hturn, -⟩ | ⟨op, u, hturn, hstep⟩ | ⟨u, hturn, -⟩ | ⟨u, hturn, hstep⟩ := step_cases s
  case inl =>
    obtain ⟨-, hcore, -⟩ := State.nextTurn_spec hturn
    cases hbusy.symm.trans (hcore rfl)
  case inr.inl =>
    cases hstep.symm.trans h
    obtain ⟨hu, -, -⟩ := State.nextTurn_spec hturn
    obtain ⟨v, r, hact, hv⟩ := u.hostAct_harmless (hreset.harmless hturn)
    rw [hact]
    generalize u.inputs = rest at hu
    subst hu
    obtain rfl | rfl | rfl | ⟨-, ⟨hnofault, -⟩ | ⟨x, rfl⟩ | ⟨x, rfl, rfl⟩ | ⟨a, b, rfl⟩⟩ := hv
    case inr.inr.inr.inl => cases hfault.symm.trans hnofault
    case inr.inr.inr.inr.inr.inl =>
      obtain ⟨rest', hin⟩ | hpoll := State.inputs_of_hostTurn hturn
      · exact ⟨hfault, hbusy, rfl, rfl, rfl, rfl, rfl, rfl, rfl, rfl, rfl, rfl, rfl,
          .inr ⟨rfl, x, rest', hin⟩⟩
      · cases hpoll
    all_goals exact ⟨hfault, hbusy, rfl, rfl, rfl, rfl, rfl, rfl, rfl, rfl, rfl, rfl, rfl, .inl rfl⟩
  case inr.inr.inl => exact (hreset.not_hardReset hturn).elim
  case inr.inr.inr =>
    cases hstep.symm.trans h
    obtain ⟨hu, -, -⟩ := State.nextTurn_spec hturn
    rw [hu]
    exact ⟨hfault, hbusy, rfl, rfl, rfl, rfl, rfl, rfl, rfl, rfl, rfl, rfl, rfl, .inl rfl⟩

/-- Settles O47: while BUSY = 1 only HERR, a draw and the response are left of a host operation. -/
theorem hostCannotTouchARunningCommand : Obligations.HostCannotTouchARunningCommand := by
  intro s op hbusy hop
  obtain ⟨t, r, hact, ht⟩ := s.hostAct_harmless hop
  rw [hact]
  obtain rfl | rfl | rfl | ⟨hnotBusy, -⟩ := ht
  · exact ⟨true, r, s.draws, rfl, fun _ => rfl⟩
  · exact ⟨t.status.herr, r, t.draws, rfl, id⟩
  · exact ⟨s.status.herr, r, s.draws + 1, rfl, id⟩
  · cases hbusy.symm.trans hnotBusy

/-- Settles O48: a read refuses exactly the accesses it must, and else writes neither HERR nor a
register. -/
theorem hostReadsHaveNoSideEffect : Obligations.HostReadsHaveNoSideEffect := by
  refine fun s x => ⟨?reg, ?msg⟩
  case reg =>
    have hbad : slotAt x = .bad ↔ x.toNat % 8 ≠ 0 ∨ 0x100 ≤ x.toNat := slotAt_bad
    rw [decide_eq_decide.2 hbad.symm]
    refine ⟨.word (s.regRead x).1, ?_⟩
    have hact : s.hostAct (.regRead x) = (s.regRead x).2.setResponse (some (.word (s.regRead x).1)) := rfl
    rw [hact]
    obtain ⟨h, hread⟩ | ⟨h, hread⟩ | ⟨h, hread⟩ := s.regRead_cases x
    · rw [decide_eq_true h, Bool.or_true, hread]
      exact ⟨s.draws, rfl⟩
    · rw [decide_eq_false h, Bool.or_false, hread]
      exact ⟨s.draws + 1, rfl⟩
    · rw [decide_eq_false h, Bool.or_false, hread]
      exact ⟨s.draws, rfl⟩
  case msg =>
    refine ⟨.byte (s.msgRead x).1, ?_⟩
    have hact : s.hostAct (.msgRead x) = (s.msgRead x).2.setResponse (some (.byte (s.msgRead x).1)) := rfl
    rw [hact, State.msgRead]
    by_cases h : s.msgSize ≤ x.toNat
    · rw [decide_eq_true h, Bool.or_true, if_pos h]
      exact ⟨s.draws, rfl⟩
    · rw [decide_eq_false h, Bool.or_false, if_neg h]
      exact ⟨s.draws + 1, rfl⟩

end Sys2Proof
end

section
/-! HASH runs to its end, alone and whatever the host does short of a reset (44_oneshot.md R203, R208;
70_reset_and_hazards.md R255, R261): O28, O29 and O30. -/

namespace Sys2Proof.Machine

/-! ### Runs -/

/-- A run of any machine goes on from its next state. -/
theorem run_succ_of_step {M : Host.Core} {s s' : M.State} (h : M.step s = .next s') (n : Nat) :
    M.run (n + 1) s = M.run n s' := by
  rw [Host.Core.run, h]

theorem run_succ {s s' : State} (h : step s = .next s') (n : Nat) :
    Host.Core.run core (n + 1) s = Host.Core.run core n s' :=
  run_succ_of_step (M := core) h n

theorem run_add {s s' : State} {k : Nat} (h : Host.Core.run core k s = .next s') (n : Nat) :
    Host.Core.run core (k + n) s = Host.Core.run core n s' := by
  induction k generalizing s with
  | zero =>
    cases h
    rw [Nat.zero_add]
  | succ k ih =>
    obtain ⟨u, hu⟩ := step_next s
    rw [run_succ hu] at h
    rw [Nat.succ_add, run_succ hu, ih h]

/-! ### What the host leaves alone while a command runs -/

/-- `t` is `s` but for HERR, the response, the draws and the events to come. -/
def State.HostOnly (s t : State) : Prop :=
  ∃ h r d l, t = { s with
    status := { s.status with herr := h }, response := r, draws := d, inputs := l }

theorem State.HostOnly.refl (s : State) : s.HostOnly s :=
  ⟨s.status.herr, s.response, s.draws, s.inputs, rfl⟩

theorem State.HostOnly.trans {s t u : State} (h : s.HostOnly t) (k : t.HostOnly u) : s.HostOnly u := by
  obtain ⟨_, _, _, _, rfl⟩ := h
  obtain ⟨e, r, d, l, rfl⟩ := k
  exact ⟨e, r, d, l, rfl⟩

theorem State.setInputs_hostOnly (s : State) (l : List Event) : s.HostOnly (s.setInputs l) :=
  ⟨s.status.herr, s.response, s.draws, l, rfl⟩

theorem State.hostAct_hostOnly {s : State} {op : HostOp} (hbusy : s.status.busy = true)
    (hop : (Event.host op).abandons = false) :
    s.HostOnly (s.hostAct op) ∧ (s.hostAct op).inputs = s.inputs := by
  obtain ⟨e, r, d, hact, -⟩ := hostCannotTouchARunningCommand s op hbusy hop
  rw [hact]
  exact ⟨⟨e, r, d, s.inputs, rfl⟩, rfl⟩

section
variable {w : Width} {m : List Byte} {s t : State} (h : s.HostOnly t)
include h

theorem State.HostOnly.running (hrun : w.Running m s) : w.Running m t := by
  obtain ⟨_, _, _, _, rfl⟩ := h
  exact ⟨hrun.busy, hrun.pend, hrun.message, hrun.fits, hrun.off_le⟩

theorem State.HostOnly.digestOf_eq : w.digestOf m t = w.digestOf m s := by
  obtain ⟨_, _, _, _, rfl⟩ := h
  rfl

theorem State.HostOnly.stepsLeft_eq : t.stepsLeft m = s.stepsLeft m := by
  obtain ⟨_, _, _, _, rfl⟩ := h
  rfl

theorem State.HostOnly.kept : t.status.fault = s.status.fault ∧ t.len = s.len := by
  obtain ⟨_, _, _, _, rfl⟩ := h
  exact ⟨rfl, rfl⟩

end

/-! ### The core's turn in a running HASH -/

section
variable {w : Width} {m : List Byte} {s : State}

/-- A core step of a running HASH: it goes on, or it is completed with its result. -/
theorem Width.Running.step_coreNext (h : w.Running m s) (hcore : s.CoreNext) :
    (∃ t phase, (s.setInputs s.inputs.tail).DatapathOnly t ∧ step s = .next (t.setSeq phase) ∧
      w.Continues m s (t.setSeq phase)) ∨
    (∃ t, (s.setInputs s.inputs.tail).DatapathOnly t ∧ step s = .next t.complete ∧
      t.datapath = (w.lanesOf m s, w.digestOf m s, s.len, w.digestOf m s)) := by
  rw [step_of_coreNext h.busy hcore (decode_eq_instr_iff.2 h.pend)]
  obtain ⟨t, phase, ht, hexec, hnext⟩ | hlast :=
    ((s.setInputs_hostOnly s.inputs.tail).running h).coreStep
  · exact .inl ⟨t, phase, ht, hexec, hnext.running, hnext.digest, hnext.lanes, hnext.nearer⟩
  · exact .inr hlast

/-! ### Alone -/

/-- What completion leaves of a HASH that runs alone from `s`. -/
structure Width.Completes (w : Width) (m : List Byte) (s t : State) : Prop where
  status : t.status = s.status.completed
  seq : t.seq = .idle
  seed : t.seed = s.seed
  len : t.len = s.len
  msg : t.msg = s.msg
  datapath : t.datapath = (w.lanesOf m s, w.digestOf m s, s.len, w.digestOf m s)

theorem Width.Running.completes (h : w.Running m s) (hin : s.inputs = []) :
    ∃ (n : Nat) (t : State), n ≤ s.stepsLeft m ∧ Host.Core.run core n s = .next t ∧
      w.Completes m s t := by
  induction hk : s.stepsLeft m using Nat.strong_induction_on generalizing s with
  | _ k ih =>
    have hself : s.setInputs s.inputs.tail = s := State.setInputs_self (by rw [hin]; rfl)
    obtain ⟨u, phase, hu, hstep, hnext⟩ | ⟨u, hu, hstep, hresult⟩ := h.step_coreNext (.inl hin)
    case inl =>
      rw [hself] at hu
      obtain ⟨n, t, hn, hrun, hend⟩ :=
        ih _ (hk ▸ hnext.nearer) hnext.running (hu.inputs_eq.trans hin) rfl
      refine ⟨n + 1, t, ?_, (run_succ hstep n).trans hrun, ?_⟩
      · have hnearer := hnext.nearer
        omega
      · refine ⟨?_, hend.seq, ?_, ?_, ?_, ?_⟩
        · rw [hend.status, State.setSeq_status, hu.status_eq]
        · rw [hend.seed, State.setSeq_seed, hu.seed_eq]
        · rw [hend.len, State.setSeq_len, hu.len_eq]
        · rw [hend.msg, State.setSeq_msg, hu.msg_eq]
        · rw [hend.datapath, hnext.lanes, hnext.digest, State.setSeq_len, hu.len_eq]
    case inr =>
      rw [hself] at hu
      refine ⟨1, u.complete, ?_, run_succ hstep 0, ?_, rfl, hu.seed_eq, hu.len_eq, hu.msg_eq, hresult⟩
      · rw [← hk, State.stepsLeft]
        split <;> omega
      · rw [State.complete_status, hu.status_eq]

/-! ### With the host -/

/-- The events before the core's next turn leave HASH running as it was. -/
theorem Width.Running.reaches_core (h : w.Running m s) (hev : ∀ e ∈ s.inputs, e.abandons = false) :
    ∃ (k : Nat) (t : State), Host.Core.run core k s = .next t ∧ s.HostOnly t ∧ t.CoreNext ∧
      ∀ e ∈ t.inputs, e.abandons = false := by
  induction hin : s.inputs generalizing s with
  | nil => exact ⟨0, s, rfl, .refl s, .inl hin, hev⟩
  | cons e rest ih =>
    rw [hin] at hev
    obtain ⟨he, hrest⟩ := List.forall_mem_cons.1 hev
    cases e with
    | core => exact ⟨0, s, rfl, .refl s, .inr ⟨rest, hin⟩, by rwa [hin]⟩
    | hardReset => cases he
    | host op =>
      have hset := s.setInputs_hostOnly rest
      obtain ⟨hact, hinputs⟩ := State.hostAct_hostOnly (s := s.setInputs rest) (by exact h.busy) he
      have hfirst := hset.trans hact
      obtain ⟨k, t, hrun, ht, hcore, hev'⟩ :=
        ih (hfirst.running h) (by rw [hinputs]; exact hrest) hinputs
      exact ⟨k + 1, t, (run_succ (step_host hin) k).trans hrun, hfirst.trans ht, hcore, hev'⟩
    | wait =>
      have hstep := step_wait hin
      rw [if_pos h.busy, State.hostAct_readStatus] at hstep
      refine ⟨1, _, run_succ hstep 0, ⟨s.status.herr, _, s.draws, _, rfl⟩,
        .inr ⟨.wait :: rest, rfl⟩, ?_⟩
      exact List.forall_mem_cons.2 ⟨rfl, List.forall_mem_cons.2 ⟨rfl, hrest⟩⟩

/-- What completion leaves of a HASH that ran from `s` while the host went on. -/
structure Width.EndsWell (w : Width) (m : List Byte) (s t : State) : Prop where
  busy : t.status.busy = false
  done : t.status.done = true
  fault : t.status.fault = s.status.fault
  off : t.off = s.len
  digest : t.digest = w.digestOf m s

theorem Width.Running.endsWell (h : w.Running m s) (hev : ∀ e ∈ s.inputs, e.abandons = false) :
    ∃ (n : Nat) (t : State), Host.Core.run core n s = .next t ∧ w.EndsWell m s t := by
  induction hk : s.stepsLeft m using Nat.strong_induction_on generalizing s with
  | _ k ih =>
    obtain ⟨j, v, hreach, hv, hcore, hev'⟩ := h.reaches_core hev
    obtain ⟨hfault, hlen⟩ := hv.kept
    have hdigest : w.digestOf m v = w.digestOf m s := hv.digestOf_eq
    have hsteps : v.stepsLeft m = s.stepsLeft m := hv.stepsLeft_eq
    obtain ⟨u, phase, hu, hstep, hnext⟩ | ⟨u, hu, hstep, hresult⟩ :=
      (hv.running h).step_coreNext hcore
    case inl =>
      have hrest : ∀ e ∈ (u.setSeq phase).inputs, e.abandons = false := fun e he => by
        rw [State.setSeq_inputs, hu.inputs_eq] at he
        exact hev' e (List.mem_of_mem_tail he)
      obtain ⟨n, t, hrun, hend⟩ :=
        ih _ (by rw [← hk, ← hsteps]; exact hnext.nearer) hnext.running hrest rfl
      refine ⟨j + (n + 1), t, ?_, hend.busy, hend.done, ?_, ?_, ?_⟩
      · rw [run_add hreach, run_succ hstep, hrun]
      · rw [hend.fault, State.setSeq_status, hu.status_eq, State.setInputs_status, hfault]
      · rw [hend.off, State.setSeq_len, hu.len_eq, State.setInputs_len, hlen]
      · rw [hend.digest, hnext.digest, hdigest]
    case inr =>
      simp only [State.datapath, Prod.mk.injEq] at hresult
      obtain ⟨-, -, hoff, hdigest'⟩ := hresult
      refine ⟨j + 1, u.complete, ?_, rfl, rfl, ?_, hoff.trans hlen, hdigest'.trans hdigest⟩
      · rw [run_add hreach, run_succ hstep]
        rfl
      · rw [State.complete_status, hu.status_eq]
        exact hfault

end

/-! ### An accepted HASH -/

section
variable {w : Width} {m : List Byte} {s : State}

theorem Width.running_of_accepted (hbusy : s.status.busy = true) (hpend : s.pend = encode w.hash)
    (hseq : s.seq = .idle) (hm : s.Message m) (hfits : m.length ≤ s.msgSize) : w.Running m s :=
  ⟨hbusy, hpend, hm, hfits, fun hrun => absurd hseq hrun⟩

theorem Width.digestOf_of_idle (hseq : s.seq = .idle) (hm : s.Message m) :
    w.digestOf m s = w.fromStart s.seed (BitVec.ofNat 64 m.length) m := by
  obtain ⟨hlen, -⟩ := hm
  rw [Width.digestOf, hseq, ← hlen, BitVec.ofNat_toNat, BitVec.setWidth_eq]

theorem Width.lanesOf_of_short (hseq : s.seq = .idle) (hlt : m.length < 4 * w.slot) :
    w.lanesOf m s = s.lanes := by
  rw [Width.lanesOf, hseq]
  exact if_neg (Nat.not_le.2 hlt)

/-- An accepted HASH alone: its completion within the steps of its bound. -/
theorem Width.completes_of_accepted (hin : s.inputs = []) (hbusy : s.status.busy = true)
    (hpend : s.pend = encode w.hash) (hseq : s.seq = .idle) (hm : s.Message m)
    (hfits : m.length ≤ s.msgSize) :
    ∃ (n : Nat) (t : State), n ≤ m.length + 4 ∧ Host.Core.run core n s = .next t ∧
      w.Completes m s t := by
  have hsteps : s.stepsLeft m = m.length + 4 := by rw [State.stepsLeft, hseq]
  rw [← hsteps]
  exact (Width.running_of_accepted hbusy hpend hseq hm hfits).completes hin

end

end Sys2Proof.Machine

namespace Sys2Proof

open Machine

/-- Settles O28: the run of an accepted HASH.32 completes with what its positions give. -/
theorem hash32ComputesXxHash32 : Obligations.Hash32ComputesXxHash32 := by
  intro s m hin hbusy hpend hseq hm hfits
  obtain ⟨n, t, hn, hrun, hend⟩ :=
    Width.completes_of_accepted (w := .narrow) hin hbusy hpend hseq hm hfits
  have hdatapath := hend.datapath
  rw [Width.digestOf_of_idle hseq hm, fromStart_narrow] at hdatapath
  simp only [State.datapath, Prod.mk.injEq] at hdatapath
  obtain ⟨hlanes, hacc, hoff, hdigest⟩ := hdatapath
  refine ⟨n, t, by omega, hrun, hend.status, hend.seq, hdigest, hacc.trans hdigest.symm, hoff, hend.seed,
    hend.len, hend.msg, fun hlt => ?_⟩
  rw [hlanes, Width.lanesOf_of_short hseq hlt]

/-- Settles O29, as O28. -/
theorem hash64ComputesXxHash64 : Obligations.Hash64ComputesXxHash64 := by
  intro s m hin hbusy hpend hseq hm hfits
  obtain ⟨n, t, hn, hrun, hend⟩ :=
    Width.completes_of_accepted (w := .wide) hin hbusy hpend hseq hm hfits
  have hdatapath := hend.datapath
  rw [Width.digestOf_of_idle hseq hm, fromStart_wide] at hdatapath
  simp only [State.datapath, Prod.mk.injEq] at hdatapath
  obtain ⟨hlanes, hacc, hoff, hdigest⟩ := hdatapath
  refine ⟨n, t, by omega, hrun, hend.status, hend.seq, hdigest, hacc.trans hdigest.symm, hoff, hend.seed,
    hend.len, hend.msg, fun hlt => ?_⟩
  rw [hlanes, Width.lanesOf_of_short hseq hlt]

/-- Settles O30: the host's events change nothing the run depends on. -/
theorem hashIsUndisturbedByTheHost : Obligations.HashIsUndisturbedByTheHost := by
  intro s m hbusy hpend hseq hm hfits hev
  obtain h32 | h64 := hpend
  case inl =>
    have hrunning : Width.narrow.Running m s := Width.running_of_accepted hbusy h32 hseq hm hfits
    obtain ⟨n, t, hrun, hend⟩ := hrunning.endsWell hev
    refine ⟨n, t, hrun, hend.busy, hend.done, hend.fault, hend.off, fun _ => ?_, fun h => ?_⟩
    · rw [hend.digest, Width.digestOf_of_idle hseq hm, fromStart_narrow]
      rfl
    · exact absurd (h32.symm.trans h) (by decide)
  case inr =>
    have hrunning : Width.wide.Running m s := Width.running_of_accepted hbusy h64 hseq hm hfits
    obtain ⟨n, t, hrun, hend⟩ := hrunning.endsWell hev
    refine ⟨n, t, hrun, hend.busy, hend.done, hend.fault, hend.off, fun h => ?_, fun _ => ?_⟩
    · exact absurd (h64.symm.trans h) (by decide)
    · rw [hend.digest, Width.digestOf_of_idle hseq hm, fromStart_wide]

end Sys2Proof
end

section
/-! The primitives in the order of HASH give what HASH gives (44_oneshot.md R205): the loops of the
sequence one after the other, and O31. -/

namespace Sys2Proof.Machine

/-! ### Lists of commands -/

/-- Running the commands `l` from `s` leads to `t`, whatever commands follow. -/
def Runs (l : List Instr) (s t : State) : Prop :=
  ∀ rest, runCommands (l ++ rest) s = runCommands rest t

theorem Runs.nil (s : State) : Runs [] s s := fun _ => rfl

theorem Runs.append {l l' : List Instr} {s t u : State} (h : Runs l s t) (h' : Runs l' t u) :
    Runs (l ++ l') s u := fun rest => by
  rw [List.append_assoc, h, h']

theorem Runs.eq_next {l : List Instr} {s t : State} (h : Runs l s t) : runCommands l s = .next t := by
  have hnil := h []
  rwa [List.append_nil] at hnil

/-- The state after the primitive `i`, issued and completed. -/
def State.afterPrimitive (s : State) (i : Instr) : State :=
  (primitiveEffect i (s.issue (encode i))).complete

theorem runs_primitive {i : Instr} {s : State} (hi : isHash i = false) (hfault : s.status.fault = false)
    (hcheck : primitiveCheck i s = none) : Runs [i] s (s.afterPrimitive i) := fun rest => by
  have hissued : primitiveCheck i (s.issue (encode i)) = none :=
    (primitiveCheck_congr rfl rfl rfl i).trans hcheck
  rw [List.singleton_append, runCommands, hfault, exec_of_check_none hi hissued]
  rfl

/-! ### Where a sequence of primitives stands -/

/-- An unfaulted block with the written message `m`, and the contents of its datapath. -/
structure State.Stage (m : List Byte) (seed : Word) (lanes : Lanes Word) (acc : Word) (off : Nat)
    (digest : Word) (s : State) : Prop where
  fault : s.status.fault = false
  message : s.Message m
  fits : m.length ≤ s.msgSize
  seed_eq : s.seed = seed
  lanes_eq : s.lanes = lanes
  acc_eq : s.acc = acc
  off_eq : s.off.toNat = off
  digest_eq : s.digest = digest

section
variable {w : Width} {m : List Byte} {seed acc digest : Word} {lanes : Lanes Word} {off : Nat} {s : State}
  (h : s.Stage m seed lanes acc off digest)
include h

/-- The stage after a primitive, by what it leaves of the datapath. -/
theorem State.Stage.next {i : Instr} {lanes' : Lanes Word} {acc' digest' : Word} {off' : Nat}
    (hlanes : lanesAfter i (s.issue (encode i)) = lanes')
    (hacc : accAfter i (s.issue (encode i)) = acc')
    (hoff : (offAfter i (s.issue (encode i))).toNat = off')
    (hdigest : digestAfter i (s.issue (encode i)) = digest') :
    (s.afterPrimitive i).Stage m seed lanes' acc' off' digest' :=
  ⟨h.fault, h.message, h.fits, h.seed_eq, hlanes, hacc, hoff, hdigest⟩

theorem State.Stage.readCheck {n : Nat} (hread : off + n ≤ m.length) : s.readCheck n = none := by
  obtain ⟨hlen, -⟩ := h.message
  have hfits := h.fits
  rw [← h.off_eq] at hread
  exact State.readCheck_none_of_le (by omega) (by omega)

/-- OFF after a primitive other than CUR.RESET, within the message. -/
theorem State.Stage.off_next {i : Instr} (hi : i ≠ .curReset) (hread : off + bytesRead i ≤ m.length) :
    (offAfter i (s.issue (encode i))).toNat = off + bytesRead i := by
  obtain ⟨hlen, -⟩ := h.message
  rw [← h.off_eq] at hread ⊢
  exact offAfter_toNat (s := s.issue (encode i)) hi
    (by rw [State.issue_off, State.issue_len, hlen]; exact hread)

/-! ### The loops -/

theorem State.Stage.stripes (n : Nat) (hread : off + n * (4 * w.slot) ≤ m.length) :
    ∃ t, Runs (List.replicate n w.laneStripe) s t ∧
      t.Stage m seed (refStripes w.slot (BitVec.ofNat 64) w.round n (m.drop off) lanes) acc
        (off + n * (4 * w.slot)) digest := by
  induction n generalizing s lanes off with
  | zero => exact ⟨s, .nil s, by simpa [refStripes] using h⟩
  | succ n ih =>
    rw [Nat.succ_mul] at hread
    have hi : isHash w.laneStripe = false := by cases w <;> rfl
    have hreset : w.laneStripe ≠ .curReset := by cases w <;> decide
    have hpos : bytesRead w.laneStripe ≠ 0 := by cases w <;> decide
    have hfirst : off + bytesRead w.laneStripe ≤ m.length := by rw [bytesRead_laneStripe]; omega
    have hholds : (s.issue (encode w.laneStripe)).Holds m := h.message.2
    have hlanes : lanesAfter w.laneStripe (s.issue (encode w.laneStripe)) =
        w.firstStripe (m.drop off) lanes := by
      rw [lanesAfter_laneStripe, State.slots_of_holds hholds
        (by rw [State.issue_off, h.off_eq]; rwa [bytesRead_laneStripe] at hfirst),
        State.issue_off, State.issue_lanes, h.off_eq, h.lanes_eq]
      rfl
    have hkept : accAfter w.laneStripe (s.issue (encode w.laneStripe)) = s.acc ∧
        digestAfter w.laneStripe (s.issue (encode w.laneStripe)) = s.digest := by
      cases w <;> exact ⟨rfl, rfl⟩
    obtain ⟨hacc, hdigest⟩ := hkept
    have hnext := h.next hlanes (hacc.trans h.acc_eq) (h.off_next hreset hfirst)
      (hdigest.trans h.digest_eq)
    rw [bytesRead_laneStripe] at hnext
    obtain ⟨t, hruns, ht⟩ := ih hnext (by omega)
    refine ⟨t, ?_, ?_⟩
    · have hcheck := (primitiveCheck_of_reads hpos s).trans (h.readCheck hfirst)
      exact (runs_primitive hi h.fault hcheck).append hruns
    · rw [Nat.succ_mul, Nat.add_comm (n * _), ← Nat.add_assoc, refStripes, List.drop_drop]
      exact ht

theorem State.Stage.folds {i : Instr} (hmem : i ∈ w.tails) (n : Nat)
    (hread : off + n * bytesRead i ≤ m.length) :
    ∃ t, Runs (List.replicate n i) s t ∧
      t.Stage m seed lanes
        (refFolds (bytesRead i) (BitVec.ofNat 64) (foldOf i) n (m.drop off) acc)
        (off + n * bytesRead i) digest := by
  have hfold : ∀ j ∈ w.tails, isHash j = false ∧ bytesRead j ≠ 0 ∧
      j ∉ [Instr.curReset, .laneInit32, .laneInit64, .laneStripe32, .laneStripe64, .accAval32,
        .accAval64] := by
    cases w <;> decide
  obtain ⟨hi, hpos, hother⟩ := hfold i hmem
  simp only [List.mem_cons, List.not_mem_nil, or_false, not_or] at hother
  obtain ⟨hreset, hinit32, hinit64, hstripe32, hstripe64, haval32, haval64⟩ := hother
  induction n generalizing s acc off with
  | zero => exact ⟨s, .nil s, by simpa [refFolds] using h⟩
  | succ n ih =>
    rw [Nat.succ_mul] at hread
    have hfirst : off + bytesRead i ≤ m.length := by omega
    have hholds : (s.issue (encode i)).Holds m := h.message.2
    have hlanes : lanesAfter i (s.issue (encode i)) = lanes := by
      rw [lanesAfter_kept (by simp [hinit32, hinit64, hstripe32, hstripe64]), State.issue_lanes, h.lanes_eq]
    have hdigest : digestAfter i (s.issue (encode i)) = digest := by
      rw [digestAfter_kept (by simp [haval32, haval64]), State.issue_digest, h.digest_eq]
    have hacc : accAfter i (s.issue (encode i)) =
        foldOf i acc (BitVec.ofNat 64 (group (m.drop off) 0 (bytesRead i))) := by
      rw [accAfter_tail _ hmem, State.atCursor_of_holds hholds
        (by rw [State.issue_off, h.off_eq]; exact hfirst),
        State.issue_off, State.issue_acc, h.off_eq, h.acc_eq]
    obtain ⟨t, hruns, ht⟩ := ih (h.next hlanes hacc (h.off_next hreset hfirst) hdigest) (by omega)
    refine ⟨t, ?_, ?_⟩
    · have hcheck := (primitiveCheck_of_reads hpos s).trans (h.readCheck hfirst)
      exact (runs_primitive hi h.fault hcheck).append hruns
    · rw [Nat.succ_mul, Nat.add_comm (n * _), ← Nat.add_assoc, refFolds, List.drop_drop]
      exact ht

end

/-! ### The sequence of a width (R205) -/

/-- The tail folds of a schedule over `n` bytes. -/
def tailCommands : List Instr → Nat → List Instr
  | [], _ => []
  | i :: rest, n => List.replicate (n / bytesRead i) i ++ tailCommands rest (n % bytesRead i)

/-- The bytes a schedule leaves of `n`. -/
def tailLeft : List Instr → Nat → Nat
  | [], n => n
  | i :: rest, n => tailLeft rest (n % bytesRead i)

/-- The primitives of a width for a message of `n` bytes, in the order of HASH after CUR.RESET. -/
def Width.primitives (w : Width) (n : Nat) : List Instr :=
  [Instr.curReset] ++ startCommands n (4 * w.slot) w.laneInit w.laneStripe w.laneConv w.accSeed ++
    [w.accLen] ++ tailCommands w.tails (n % (4 * w.slot)) ++ [w.accAval]

theorem primitives32_eq (n : Nat) : primitives32 n = Width.narrow.primitives n := by
  have hmod : n % 16 % 4 = n % 4 := Nat.mod_mod_of_dvd n (by decide)
  simp [primitives32, Width.primitives, tailCommands, Width.tails, Width.slot, bytesRead, hmod,
    Width.laneInit, Width.laneStripe, Width.laneConv, Width.accSeed, Width.accLen, Width.accAval]

theorem primitives64_eq (n : Nat) : primitives64 n = Width.wide.primitives n := by
  have hmod8 : n % 32 % 8 = n % 8 := Nat.mod_mod_of_dvd n (by decide)
  have hmod4 : n % 8 % 4 = n % 4 := Nat.mod_mod_of_dvd n (by decide)
  simp [primitives64, Width.primitives, tailCommands, Width.tails, Width.slot, bytesRead, hmod8, hmod4,
    Width.laneInit, Width.laneStripe, Width.laneConv, Width.accSeed, Width.accLen, Width.accAval]

theorem tailLeft_tails (w : Width) (n : Nat) : tailLeft w.tails n = 0 := by
  cases w <;> simp [Width.tails, tailLeft, bytesRead, Nat.mod_one]

section
variable {w : Width} {m : List Byte} {seed acc digest : Word} {lanes : Lanes Word} {off : Nat} {s : State}
  (h : s.Stage m seed lanes acc off digest)
include h

theorem State.Stage.tail {folds : List Instr} (hfolds : ∀ i ∈ folds, i ∈ w.tails)
    (hoff : off ≤ m.length) :
    ∃ t, Runs (tailCommands folds (m.length - off)) s t ∧
      t.Stage m seed lanes (foldTail folds (m.drop off) acc)
        (m.length - tailLeft folds (m.length - off)) digest := by
  induction folds generalizing s acc off with
  | nil =>
    refine ⟨s, .nil s, ?_⟩
    rw [tailLeft, Nat.sub_sub_self hoff]
    exact h
  | cons i rest ih =>
    obtain ⟨hi, hrest⟩ := List.forall_mem_cons.1 hfolds
    have hdiv := Nat.div_add_mod (m.length - off) (bytesRead i)
    rw [Nat.mul_comm] at hdiv
    obtain ⟨u, hruns, hu⟩ := h.folds hi ((m.length - off) / bytesRead i) (by omega)
    have hleft : m.length - (off + (m.length - off) / bytesRead i * bytesRead i) =
        (m.length - off) % bytesRead i := by omega
    obtain ⟨t, hruns', ht⟩ := ih hu hrest (by omega)
    rw [hleft] at hruns' ht
    refine ⟨t, hruns.append hruns', ?_⟩
    rw [foldTail, List.length_drop, List.drop_drop, tailLeft]
    exact ht

/-! ### The commands that do not read -/

theorem State.Stage.curReset :
    ∃ t, Runs [.curReset] s t ∧ t.Stage m seed lanes acc 0 digest :=
  ⟨_, runs_primitive rfl h.fault rfl, h.next h.lanes_eq h.acc_eq rfl h.digest_eq⟩

theorem State.Stage.laneInit :
    ∃ t, Runs [w.laneInit] s t ∧ t.Stage m seed (w.initLanes seed) acc off digest := by
  have hcheck : primitiveCheck w.laneInit s = none := by cases w <;> rfl
  refine ⟨_, runs_primitive (by cases w <;> rfl) h.fault hcheck, h.next ?_ ?_ ?_ ?_⟩
  · rw [lanesAfter_laneInit, State.issue_seed, h.seed_eq]
  · exact h.acc_eq ▸ (by cases w <;> rfl)
  · exact h.off_eq ▸ (by cases w <;> rfl)
  · exact h.digest_eq ▸ (by cases w <;> rfl)

theorem State.Stage.laneConv :
    ∃ t, Runs [w.laneConv] s t ∧ t.Stage m seed lanes (w.converge lanes) off digest := by
  have hcheck : primitiveCheck w.laneConv s = none := by cases w <;> rfl
  refine ⟨_, runs_primitive (by cases w <;> rfl) h.fault hcheck, h.next ?_ ?_ ?_ ?_⟩
  · exact h.lanes_eq ▸ (by cases w <;> rfl)
  · rw [accAfter_laneConv, State.issue_lanes, h.lanes_eq]
  · exact h.off_eq ▸ (by cases w <;> rfl)
  · exact h.digest_eq ▸ (by cases w <;> rfl)

theorem State.Stage.accSeed :
    ∃ t, Runs [w.accSeed] s t ∧ t.Stage m seed lanes (w.seedAcc seed) off digest := by
  have hcheck : primitiveCheck w.accSeed s = none := by cases w <;> rfl
  refine ⟨_, runs_primitive (by cases w <;> rfl) h.fault hcheck, h.next ?_ ?_ ?_ ?_⟩
  · exact h.lanes_eq ▸ (by cases w <;> rfl)
  · rw [accAfter_accSeed, State.issue_seed, h.seed_eq]
  · exact h.off_eq ▸ (by cases w <;> rfl)
  · exact h.digest_eq ▸ (by cases w <;> rfl)

theorem State.Stage.accLen :
    ∃ t, Runs [w.accLen] s t ∧
      t.Stage m seed lanes (w.addLen acc (BitVec.ofNat 64 m.length)) off digest := by
  have hcheck : primitiveCheck w.accLen s = none := by cases w <;> rfl
  have hlen : s.len = BitVec.ofNat 64 m.length := by
    rw [← h.message.1, BitVec.ofNat_toNat, BitVec.setWidth_eq]
  refine ⟨_, runs_primitive (by cases w <;> rfl) h.fault hcheck, h.next ?_ ?_ ?_ ?_⟩
  · exact h.lanes_eq ▸ (by cases w <;> rfl)
  · rw [accAfter_accLen, State.issue_acc, State.issue_len, h.acc_eq, hlen]
  · exact h.off_eq ▸ (by cases w <;> rfl)
  · exact h.digest_eq ▸ (by cases w <;> rfl)

theorem State.Stage.accAval (hend : off = m.length) :
    ∃ t, Runs [w.accAval] s t ∧ t.status.done = true ∧
      t.Stage m seed lanes (w.aval acc) off (w.aval acc) := by
  have hleft : s.remaining = 0 := by
    refine State.remaining_eq_zero.2 (BitVec.eq_of_toNat_eq ?_)
    rw [h.off_eq, hend, h.message.1]
  refine ⟨_, runs_primitive (by cases w <;> rfl) h.fault (primitiveCheck_accAval w hleft), rfl,
    h.next ?_ ?_ ?_ ?_⟩
  · exact h.lanes_eq ▸ (by cases w <;> rfl)
  · rw [accAfter_accAval, State.issue_acc, h.acc_eq]
  · exact h.off_eq ▸ (by cases w <;> rfl)
  · rw [digestAfter_accAval, State.issue_acc, h.acc_eq]

end

/-! ### The whole sequence -/

/-- ACC after the start of the sequence and its stripes. -/
def Width.startAcc (w : Width) (seed : Word) (m : List Byte) : Word :=
  if 4 * w.slot ≤ m.length then w.converge (w.stripes m (w.initLanes seed)) else w.seedAcc seed

/-- The lanes after the start of the sequence and its stripes. -/
def Width.startLanes (w : Width) (seed : Word) (m : List Byte) (lanes : Lanes Word) : Lanes Word :=
  if 4 * w.slot ≤ m.length then w.stripes m (w.initLanes seed) else lanes

theorem Width.fromStart_eq (w : Width) (seed len : Word) (m : List Byte) :
    w.fromStart seed len m =
      w.fromLength len (m.drop (m.length / (4 * w.slot) * (4 * w.slot))) (w.startAcc seed m) := by
  rw [Width.fromStart, Width.startAcc]
  split
  case isTrue h => rfl
  case isFalse h => rw [drop_multiples_of_lt (Nat.not_le.1 h)]

section
variable {m : List Byte} {seed acc digest : Word} {lanes : Lanes Word} {s : State}

theorem State.Stage.start (w : Width) (h : s.Stage m seed lanes acc 0 digest) :
    ∃ t, Runs (startCommands m.length (4 * w.slot) w.laneInit w.laneStripe w.laneConv w.accSeed) s t ∧
      t.Stage m seed (w.startLanes seed m lanes) (w.startAcc seed m)
        (m.length / (4 * w.slot) * (4 * w.slot)) digest := by
  rw [startCommands, Width.startLanes, Width.startAcc]
  split
  case isTrue hle =>
    obtain ⟨s₁, hinit, h₁⟩ := h.laneInit (w := w)
    obtain ⟨s₂, hstripes, h₂⟩ := h₁.stripes (w := w) (m.length / (4 * w.slot))
      (by rw [Nat.zero_add]; exact Nat.div_mul_le_self _ _)
    obtain ⟨s₃, hconv, h₃⟩ := h₂.laneConv (w := w)
    rw [Nat.zero_add, List.drop_zero] at h₃
    exact ⟨s₃, hinit.append (hstripes.append hconv), h₃⟩
  case isFalse hlt =>
    rw [Nat.div_eq_of_lt (Nat.not_le.1 hlt), Nat.zero_mul]
    exact h.accSeed

theorem State.Stage.primitives {off : Nat} (w : Width) (h : s.Stage m seed lanes acc off digest) :
    ∃ t, Runs (w.primitives m.length) s t ∧ t.status.done = true ∧
      t.Stage m seed (w.startLanes seed m lanes) (w.fromStart seed (BitVec.ofNat 64 m.length) m)
        m.length (w.fromStart seed (BitVec.ofNat 64 m.length) m) := by
  have hleft : m.length - m.length / (4 * w.slot) * (4 * w.slot) = m.length % (4 * w.slot) := by
    rw [Nat.mod_eq_sub_div_mul]
  obtain ⟨s₁, hreset, h₁⟩ := h.curReset
  obtain ⟨s₂, hstart, h₂⟩ := h₁.start w
  obtain ⟨s₃, hlen, h₃⟩ := h₂.accLen (w := w)
  obtain ⟨s₄, htail, h₄⟩ := h₃.tail (w := w) (fun _ hi => hi) (Nat.div_mul_le_self _ _)
  rw [hleft] at htail h₄
  rw [tailLeft_tails, Nat.sub_zero] at h₄
  obtain ⟨t, haval, hdone, ht⟩ := h₄.accAval (w := w) rfl
  rw [Width.fromStart_eq]
  exact ⟨t, (((hreset.append hstart).append hlen).append htail).append haval, hdone, ht⟩

/-- The sequence of primitives and the HASH of one width, from one state. -/
theorem primitives_agree_with_hash (w : Width) (hin : s.inputs = []) (hfault : s.status.fault = false)
    (hseq : s.seq = .idle) (hm : s.Message m) (hfits : m.length ≤ s.msgSize) :
    ∃ (n : Nat) (t u : State), runCommands (w.primitives m.length) s = .next t ∧
      t.status.fault = false ∧ t.status.done = true ∧
      Host.Core.run core n (s.issue (encode w.hash)) = .next u ∧
      u.status.busy = false ∧ u.status.done = true ∧ t.datapath = u.datapath := by
  have hstage : s.Stage m s.seed s.lanes s.acc s.off.toNat s.digest :=
    ⟨hfault, hm, hfits, rfl, rfl, rfl, rfl, rfl⟩
  obtain ⟨t, hruns, hdone, ht⟩ := hstage.primitives w
  have hissued : (s.issue (encode w.hash)).Message m := hm
  have hidle : (s.issue (encode w.hash)).seq = .idle := hseq
  obtain ⟨n, u, -, hrun, hend⟩ :=
    Width.completes_of_accepted (s := s.issue (encode w.hash)) hin rfl rfl hidle hissued hfits
  have hlanes : w.lanesOf m (s.issue (encode w.hash)) = w.startLanes s.seed m s.lanes := by
    rw [Width.lanesOf, hidle, State.issue_seed, State.issue_lanes, Width.startLanes]
  have hoff : t.off = s.len := BitVec.eq_of_toNat_eq (ht.off_eq.trans hm.1.symm)
  refine ⟨n, t, u, hruns.eq_next, ht.fault, hdone, hrun, ?_, ?_, ?_⟩
  · rw [hend.status]
    rfl
  · rw [hend.status]
    rfl
  · rw [hend.datapath, hlanes, Width.digestOf_of_idle hidle hissued, State.datapath, ht.lanes_eq,
      ht.acc_eq, ht.digest_eq, hoff, State.issue_seed, State.issue_len]

end

end Sys2Proof.Machine

namespace Sys2Proof

open Machine

/-- Settles O31: for each width the sequence and HASH end with the same datapath. -/
theorem primitiveSequenceEqualsHash : Obligations.PrimitiveSequenceEqualsHash := by
  intro s m hin _ hfault hseq hm hfits
  rw [primitives32_eq, primitives64_eq]
  exact ⟨primitives_agree_with_hash .narrow hin hfault hseq hm hfits,
    primitives_agree_with_hash .wide hin hfault hseq hm hfits⟩

end Sys2Proof
end

section
/-! The message memory and the host's ports (20_memory.md R62 to R65, 30_encoding.md R98, R99): O42, O38,
O39, O41, O52 and O54; the known answers of O32. -/

namespace Sys2Proof.Machine

/-! ### The canonical memory -/

theorem Memory.lookup_head (c : Host.Cell) (m : Memory) : Memory.lookup (c :: m) c.1 = some c.2 :=
  if_pos rfl

theorem Memory.lookup_tail {c : Host.Cell} {a : Nat} (h : c.1 ≠ a) (m : Memory) :
    Memory.lookup (c :: m) a = Memory.lookup m a :=
  if_neg h

/-- Below its first address a canonical memory holds nothing. -/
theorem Memory.lookup_eq_none {m : Memory} {a : Nat} (hwf : Memory.wf m = true)
    (hhead : ∀ d, m.head? = some d → a < d.1) : Memory.lookup m a = none := by
  induction m with
  | nil => rfl
  | cons c m ih =>
    obtain ⟨hnext, hrest⟩ := Memory.wf_cons.1 hwf
    have hac : a < c.1 := hhead c rfl
    rw [Memory.lookup_tail hac.ne']
    exact ih hrest fun d hd => hac.trans (hnext d hd)

theorem Memory.lookup_tail_of_wf {c : Host.Cell} {m : Memory} (hwf : Memory.wf (c :: m) = true) {a : Nat}
    (ha : a ≤ c.1) : Memory.lookup m a = none := by
  obtain ⟨hnext, hrest⟩ := Memory.wf_cons.1 hwf
  exact Memory.lookup_eq_none hrest fun d hd => Nat.lt_of_le_of_lt ha (hnext d hd)

/-- The first address of a canonical memory is not above any other written one. -/
theorem Memory.head_le {c : Host.Cell} {m : Memory} (hwf : Memory.wf (c :: m) = true) {a : Nat} {b : Byte}
    (h : Memory.lookup (c :: m) a = some b) : c.1 ≤ a := by
  by_contra hlt
  have hac : a < c.1 := Nat.not_le.1 hlt
  rw [Memory.lookup_tail hac.ne', Memory.lookup_tail_of_wf hwf hac.le] at h
  cases h

/-- Canonical memories of the same contents begin alike. -/
theorem Memory.head_eq {c d : Host.Cell} {m m' : Memory} (hwf : Memory.wf (c :: m) = true)
    (hwf' : Memory.wf (d :: m') = true)
    (hsame : ∀ a, Memory.lookup (c :: m) a = Memory.lookup (d :: m') a) : c = d := by
  have hc := (hsame c.1).symm.trans (Memory.lookup_head c m)
  have hd := (hsame d.1).trans (Memory.lookup_head d m')
  have haddr : c.1 = d.1 := Nat.le_antisymm (Memory.head_le hwf hd) (Memory.head_le hwf' hc)
  rw [haddr, Memory.lookup_head] at hc
  exact Prod.ext haddr (Option.some.inj hc).symm

/-- Canonical memories of the same contents and the same first cell go on alike. -/
theorem Memory.lookup_tail_congr {c : Host.Cell} {m m' : Memory} (hwf : Memory.wf (c :: m) = true)
    (hwf' : Memory.wf (c :: m') = true)
    (hsame : ∀ a, Memory.lookup (c :: m) a = Memory.lookup (c :: m') a) (a : Nat) :
    Memory.lookup m a = Memory.lookup m' a := by
  by_cases ha : c.1 = a
  · rw [Memory.lookup_tail_of_wf hwf ha.ge, Memory.lookup_tail_of_wf hwf' ha.ge]
  · rw [← Memory.lookup_tail ha m, hsame, Memory.lookup_tail ha]

/-! ### RegRead, one slot at a time -/

section
variable (s : State)

theorem State.regRead_bad {off : Word} (h : slotAt off = .bad) : s.regRead off = (0, s.refuse) := by
  simp only [State.regRead, h]

theorem State.regRead_reserved {off : Word} (h : slotAt off = .reserved) : s.regRead off = (0, s) := by
  simp only [State.regRead, h]

theorem State.regRead_offset (r : HostReg) :
    s.regRead r.offset =
      if s.status.busy && r.unstableWhileBusy then (Config.freeWord s.draws, s.setDraws (s.draws + 1))
      else (s.regValue r, s) := by
  simp only [State.regRead, slotAt_offset]

theorem State.regRead_unstable {r : HostReg} (hr : r.unstableWhileBusy = true)
    (hbusy : s.status.busy = true) :
    s.regRead r.offset = (Config.freeWord s.draws, s.setDraws (s.draws + 1)) := by
  rw [State.regRead_offset, hbusy, hr]
  rfl

theorem State.regRead_idle (r : HostReg) (hbusy : s.status.busy = false) :
    s.regRead r.offset = (s.regValue r, s) := by
  rw [State.regRead_offset, hbusy]
  rfl

theorem State.regRead_stable {r : HostReg} (hr : r.unstableWhileBusy = false) :
    s.regRead r.offset = (s.regValue r, s) := by
  rw [State.regRead_offset, hr, Bool.and_false]
  rfl

end

theorem HostReg.offset_le (r : HostReg) : r.offset.toNat ≤ 0x80 := by
  cases r <;> decide

/-- The reserved slots (10_state.md R34). -/
theorem slotAt_reserved {off : Word} (hmod : off.toNat % 8 = 0) (hlow : 0x88 ≤ off.toNat)
    (hhigh : off.toNat ≤ 0xF8) : slotAt off = .reserved := by
  cases hs : slotAt off with
  | bad =>
    rw [slotAt_bad] at hs
    omega
  | reg r =>
    obtain rfl := slotAt_reg hs
    have hle := r.offset_le
    omega
  | reserved => rfl

/-! ### MsgRead and MsgWrite (20_memory.md R64, R65) -/

section
variable {s : State} {a : Word}

theorem State.msgWrite_of_refused (b : Byte) (h : s.msgSize ≤ a.toNat ∨ s.status.busy = true) :
    s.msgWrite a b = s.refuse :=
  if_pos h

theorem State.msgWrite_of_lt (b : Byte) (ha : a.toNat < s.msgSize) (hbusy : s.status.busy = false) :
    s.msgWrite a b = s.setMsg (Memory.insert s.msg a.toNat b) :=
  if_neg (by simp [hbusy, ha])

theorem State.msgRead_of_le (h : s.msgSize ≤ a.toNat) : s.msgRead a = (0, s.refuse) := if_pos h

theorem State.msgRead_of_lt (h : a.toNat < s.msgSize) :
    s.msgRead a = (s.byteAt a.toNat s.draws, s.setDraws (s.draws + 1)) :=
  if_neg (Nat.not_le.2 h)

end

/-! ### The bytes of a script (30_encoding.md R99) -/

theorem writeBytes_length (a : Word) (bytes : List Byte) : (writeBytes a bytes).length = bytes.length := by
  induction bytes generalizing a with
  | nil => rfl
  | cons b rest ih => rw [writeBytes, List.length_cons, ih, List.length_cons]

theorem writeBytes_getElem? (a : Word) (bytes : List Byte) (k : Nat) (h : k < bytes.length) :
    (writeBytes a bytes)[k]? = some (.host (.msgWrite (a + BitVec.ofNat 64 k) bytes[k])) := by
  induction bytes generalizing a k with
  | nil => cases h
  | cons b rest ih =>
    cases k with
    | zero => rw [writeBytes, List.getElem?_cons_zero, BitVec.add_zero]; rfl
    | succ k =>
      have haddr : a + 1 + BitVec.ofNat 64 k = a + BitVec.ofNat 64 (k + 1) := by
        rw [BitVec.add_assoc, BitVec.ofNat_add, BitVec.add_comm 1]
        rfl
      rw [writeBytes, List.getElem?_cons_succ, ih _ _ (Nat.lt_of_succ_lt_succ h), haddr]
      rfl

theorem charByte_toNat (c : Char) : (charByte c).toNat = c.toNat % 256 := BitVec.toNat_ofNat _ _

end Sys2Proof.Machine

namespace Sys2Proof

open Machine

/-- Settles O42: the two first addresses are each not above the other, and so on along the lists. -/
theorem canonicalMemoryIsUnique : Obligations.CanonicalMemoryIsUnique := by
  intro m
  induction m with
  | nil =>
    rintro (_ | ⟨d, m'⟩) _ _ hsame
    · rfl
    · cases (hsame d.1).trans (Memory.lookup_head d m')
  | cons c m ih =>
    rintro (_ | ⟨d, m'⟩) hwf hwf' hsame
    · cases (Memory.lookup_head c m).symm.trans (hsame c.1)
    · have hhead := Memory.head_eq hwf hwf' hsame
      subst hhead
      obtain ⟨-, hrest⟩ := Memory.wf_cons.1 hwf
      obtain ⟨-, hrest'⟩ := Memory.wf_cons.1 hwf'
      rw [ih m' hrest hrest' (Memory.lookup_tail_congr hwf hwf' hsame)]

/-- Settles O32 by evaluation. -/
theorem referenceGivesKnownAnswers : Obligations.ReferenceGivesKnownAnswers := by
  rintro nobody fox rfl rfl
  decide

/-- Settles O38: a finite check over the four flags and the four bits of FCAUSE. -/
theorem statusWordLayout : Obligations.StatusWordLayout := by
  rintro ⟨busy, done, fault, herr, fcause⟩
  revert busy done fault herr fcause
  decide

/-- Settles O39, one clause per kind of slot. -/
theorem regReadFollowsTheMap : Obligations.RegReadFollowsTheMap := by
  refine fun s off => ⟨fun h => ?bad, fun hbusy hoff => ?unstable, fun v hoff hbusy => ?idle,
    fun v hoff => ?stable, fun hmod hlow hhigh => ?reserved⟩
  case bad => exact s.regRead_bad (slotAt_bad.2 h)
  case unstable =>
    obtain ⟨r, hr, rfl⟩ : ∃ r : HostReg, r.unstableWhileBusy = true ∧ off = r.offset := by
      simp only [List.mem_cons, List.not_mem_nil, or_false] at hoff
      obtain rfl | rfl | rfl | rfl | rfl | rfl | rfl := hoff
      exacts [⟨.off, rfl, rfl⟩, ⟨.acc, rfl, rfl⟩, ⟨.lane1, rfl, rfl⟩, ⟨.lane2, rfl, rfl⟩,
        ⟨.lane3, rfl, rfl⟩, ⟨.lane4, rfl, rfl⟩, ⟨.digest, rfl, rfl⟩]
    exact ⟨_, s.regRead_unstable hr hbusy⟩
  case idle =>
    obtain ⟨r, rfl, rfl⟩ : ∃ r : HostReg, off = r.offset ∧ v = s.regValue r := by
      simp only [List.mem_cons, List.not_mem_nil, or_false, Prod.mk.injEq] at hoff
      obtain ⟨rfl, rfl⟩ | ⟨rfl, rfl⟩ | ⟨rfl, rfl⟩ | ⟨rfl, rfl⟩ | ⟨rfl, rfl⟩ | ⟨rfl, rfl⟩ | ⟨rfl, rfl⟩ :=
        hoff
      exacts [⟨.off, rfl, rfl⟩, ⟨.acc, rfl, rfl⟩, ⟨.lane1, rfl, rfl⟩, ⟨.lane2, rfl, rfl⟩,
        ⟨.lane3, rfl, rfl⟩, ⟨.lane4, rfl, rfl⟩, ⟨.digest, rfl, rfl⟩]
    exact s.regRead_idle r hbusy
  case stable =>
    obtain ⟨r, hr, rfl, rfl⟩ :
        ∃ r : HostReg, r.unstableWhileBusy = false ∧ off = r.offset ∧ v = s.regValue r := by
      simp only [List.mem_cons, List.not_mem_nil, or_false, Prod.mk.injEq] at hoff
      obtain ⟨rfl, rfl⟩ | ⟨rfl, rfl⟩ | ⟨rfl, rfl⟩ | ⟨rfl, rfl⟩ | ⟨rfl, rfl⟩ | ⟨rfl, rfl⟩ | ⟨rfl, rfl⟩ |
        ⟨rfl, rfl⟩ | ⟨rfl, rfl⟩ | ⟨rfl, rfl⟩ := hoff
      exacts [⟨.id, rfl, rfl, rfl⟩, ⟨.ctrl, rfl, rfl, rfl⟩, ⟨.status, rfl, rfl, rfl⟩,
        ⟨.cmd, rfl, rfl, rfl⟩, ⟨.seed, rfl, rfl, rfl⟩, ⟨.len, rfl, rfl, rfl⟩, ⟨.fcmd, rfl, rfl, rfl⟩,
        ⟨.foff, rfl, rfl, rfl⟩, ⟨.fneed, rfl, rfl, rfl⟩, ⟨.msgsz, rfl, rfl, rfl⟩]
    exact s.regRead_stable hr
  case reserved => exact s.regRead_reserved (slotAt_reserved hmod hlow hhigh)

/-- Settles O41: a written byte is the one read, and every other access is refused or draws. -/
theorem messagePortReadsWhatWasWritten : Obligations.MessagePortReadsWhatWasWritten := by
  refine fun s a b => ⟨fun h => State.msgWrite_of_refused b h, fun ha hbusy => ?write,
    fun h => State.msgRead_of_le h, fun ha => ⟨_, State.msgRead_of_lt ha, fun c hc => ?read⟩⟩
  case write =>
    have hwritten := Memory.lookup_insert_self s.msg a.toNat b
    refine ⟨_, State.msgWrite_of_lt b ha hbusy, hwritten,
      fun a' ha' => Memory.lookup_insert_ne s.msg b ha', ?_⟩
    have hread := State.msgRead_of_lt (s := s.setMsg (Memory.insert s.msg a.toNat b)) (a := a) ha
    rw [State.msgWrite_of_lt b ha hbusy, hread]
    exact State.byteAt_written hwritten _
  case read => exact State.byteAt_written hc _

/-- Settles O52: each statement's events, the bytes of `wbytes` one by one. -/
theorem scriptExpandsToHostOperations : Obligations.ScriptExpandsToHostOperations := by
  refine ⟨fun r v => ⟨rfl, rfl, slotAt_offset r⟩, fun a b => ⟨rfl, rfl⟩, fun i w => ⟨rfl, rfl, rfl⟩,
    writeBytes_getElem?, writeBytes_length, fun a text => rfl,
    fun c => ⟨charByte_toNat c, fun hc => ?_⟩, rfl, fun text => rfl, rfl⟩
  rw [charByte_toNat, Nat.mod_eq_of_lt (by omega)]

/-- Settles O54: `hostAct` names the operation of each host event. -/
theorem hostActIsTheOperation : Obligations.HostActIsTheOperation :=
  fun _ _ _ _ => ⟨rfl, rfl, rfl, rfl⟩

end Sys2Proof
end
